-- ==== Sys2Proof/Word.lean ====
section
/-! DEFINITION. Word types of HUFFCORE: a byte and a code-table word (R98). A size, count, bit counter or handle is a
register of `SIZE_W` bits, held as the natural number it is (R9; D6: all arithmetic on sizes is on natural numbers):
`SIZE_W` is an argument of the model (R8), so it is a field of `State`, and a value that does not fit it is never
stored (log entry 1). -/

namespace Sys2Proof

/-- A byte of a memory region (R60). -/
abbrev Byte := BitVec 8

/-- One CodeEntry, a word of `ROM` or `DT`, by its fields (R98: widths 32, 6 and 9). -/
structure CodeEntry where
  code : BitVec 32
  length : BitVec 6
  symbol : BitVec 9
  deriving DecidableEq, Repr, Inhabited

end Sys2Proof
end

