-- ==== Sys2Proof/Machine/Rom.lean ====
section
/-! DEFINITION. The contents of the code-table ROM: the default instance `ROM_H2` of R108. -/

namespace Sys2Proof

/-- A table word from its three fields as the table of R108 prints them. -/
def entry (symbol code length : Nat) : CodeEntry :=
  { code := BitVec.ofNat 32 code, length := BitVec.ofNat 6 length, symbol := BitVec.ofNat 9 symbol }

/-- `ROM_H2`, symbols 0 to 31 (R108, G1: from general knowledge). -/
def romH2Part0 : List CodeEntry :=
  [entry 0 0x1ff8 13, entry 1 0x7fffd8 23, entry 2 0xfffffe2 28, entry 3 0xfffffe3 28,
   entry 4 0xfffffe4 28, entry 5 0xfffffe5 28, entry 6 0xfffffe6 28, entry 7 0xfffffe7 28,
   entry 8 0xfffffe8 28, entry 9 0xffffea 24, entry 10 0x3ffffffc 30, entry 11 0xfffffe9 28,
   entry 12 0xfffffea 28, entry 13 0x3ffffffd 30, entry 14 0xfffffeb 28, entry 15 0xfffffec 28,
   entry 16 0xfffffed 28, entry 17 0xfffffee 28, entry 18 0xfffffef 28, entry 19 0xffffff0 28,
   entry 20 0xffffff1 28, entry 21 0xffffff2 28, entry 22 0x3ffffffe 30, entry 23 0xffffff3 28,
   entry 24 0xffffff4 28, entry 25 0xffffff5 28, entry 26 0xffffff6 28, entry 27 0xffffff7 28,
   entry 28 0xffffff8 28, entry 29 0xffffff9 28, entry 30 0xffffffa 28, entry 31 0xffffffb 28]

/-- `ROM_H2`, symbols 32 to 63 (R108, G1: from general knowledge). -/
def romH2Part1 : List CodeEntry :=
  [entry 32 0x14 6, entry 33 0x3f8 10, entry 34 0x3f9 10, entry 35 0xffa 12,
   entry 36 0x1ff9 13, entry 37 0x15 6, entry 38 0xf8 8, entry 39 0x7fa 11,
   entry 40 0x3fa 10, entry 41 0x3fb 10, entry 42 0xf9 8, entry 43 0x7fb 11,
   entry 44 0xfa 8, entry 45 0x16 6, entry 46 0x17 6, entry 47 0x18 6,
   entry 48 0x0 5, entry 49 0x1 5, entry 50 0x2 5, entry 51 0x19 6,
   entry 52 0x1a 6, entry 53 0x1b 6, entry 54 0x1c 6, entry 55 0x1d 6,
   entry 56 0x1e 6, entry 57 0x1f 6, entry 58 0x5c 7, entry 59 0xfb 8,
   entry 60 0x7ffc 15, entry 61 0x20 6, entry 62 0xffb 12, entry 63 0x3fc 10]

/-- `ROM_H2`, symbols 64 to 95 (R108, G1: from general knowledge). -/
def romH2Part2 : List CodeEntry :=
  [entry 64 0x1ffa 13, entry 65 0x21 6, entry 66 0x5d 7, entry 67 0x5e 7,
   entry 68 0x5f 7, entry 69 0x60 7, entry 70 0x61 7, entry 71 0x62 7,
   entry 72 0x63 7, entry 73 0x64 7, entry 74 0x65 7, entry 75 0x66 7,
   entry 76 0x67 7, entry 77 0x68 7, entry 78 0x69 7, entry 79 0x6a 7,
   entry 80 0x6b 7, entry 81 0x6c 7, entry 82 0x6d 7, entry 83 0x6e 7,
   entry 84 0x6f 7, entry 85 0x70 7, entry 86 0x71 7, entry 87 0x72 7,
   entry 88 0xfc 8, entry 89 0x73 7, entry 90 0xfd 8, entry 91 0x1ffb 13,
   entry 92 0x7fff0 19, entry 93 0x1ffc 13, entry 94 0x3ffc 14, entry 95 0x22 6]

/-- `ROM_H2`, symbols 96 to 127 (R108, G1: from general knowledge). -/
def romH2Part3 : List CodeEntry :=
  [entry 96 0x7ffd 15, entry 97 0x3 5, entry 98 0x23 6, entry 99 0x4 5,
   entry 100 0x24 6, entry 101 0x5 5, entry 102 0x25 6, entry 103 0x26 6,
   entry 104 0x27 6, entry 105 0x6 5, entry 106 0x74 7, entry 107 0x75 7,
   entry 108 0x28 6, entry 109 0x29 6, entry 110 0x2a 6, entry 111 0x7 5,
   entry 112 0x2b 6, entry 113 0x76 7, entry 114 0x2c 6, entry 115 0x8 5,
   entry 116 0x9 5, entry 117 0x2d 6, entry 118 0x77 7, entry 119 0x78 7,
   entry 120 0x79 7, entry 121 0x7a 7, entry 122 0x7b 7, entry 123 0x7ffe 15,
   entry 124 0x7fc 11, entry 125 0x3ffd 14, entry 126 0x1ffd 13, entry 127 0xffffffc 28]

/-- `ROM_H2`, symbols 128 to 159 (R108, G1: from general knowledge). -/
def romH2Part4 : List CodeEntry :=
  [entry 128 0xfffe6 20, entry 129 0x3fffd2 22, entry 130 0xfffe7 20, entry 131 0xfffe8 20,
   entry 132 0x3fffd3 22, entry 133 0x3fffd4 22, entry 134 0x3fffd5 22, entry 135 0x7fffd9 23,
   entry 136 0x3fffd6 22, entry 137 0x7fffda 23, entry 138 0x7fffdb 23, entry 139 0x7fffdc 23,
   entry 140 0x7fffdd 23, entry 141 0x7fffde 23, entry 142 0xffffeb 24, entry 143 0x7fffdf 23,
   entry 144 0xffffec 24, entry 145 0xffffed 24, entry 146 0x3fffd7 22, entry 147 0x7fffe0 23,
   entry 148 0xffffee 24, entry 149 0x7fffe1 23, entry 150 0x7fffe2 23, entry 151 0x7fffe3 23,
   entry 152 0x7fffe4 23, entry 153 0x1fffdc 21, entry 154 0x3fffd8 22, entry 155 0x7fffe5 23,
   entry 156 0x3fffd9 22, entry 157 0x7fffe6 23, entry 158 0x7fffe7 23, entry 159 0xffffef 24]

/-- `ROM_H2`, symbols 160 to 191 (R108, G1: from general knowledge). -/
def romH2Part5 : List CodeEntry :=
  [entry 160 0x3fffda 22, entry 161 0x1fffdd 21, entry 162 0xfffe9 20, entry 163 0x3fffdb 22,
   entry 164 0x3fffdc 22, entry 165 0x7fffe8 23, entry 166 0x7fffe9 23, entry 167 0x1fffde 21,
   entry 168 0x7fffea 23, entry 169 0x3fffdd 22, entry 170 0x3fffde 22, entry 171 0xfffff0 24,
   entry 172 0x1fffdf 21, entry 173 0x3fffdf 22, entry 174 0x7fffeb 23, entry 175 0x7fffec 23,
   entry 176 0x1fffe0 21, entry 177 0x1fffe1 21, entry 178 0x3fffe0 22, entry 179 0x1fffe2 21,
   entry 180 0x7fffed 23, entry 181 0x3fffe1 22, entry 182 0x7fffee 23, entry 183 0x7fffef 23,
   entry 184 0xfffea 20, entry 185 0x3fffe2 22, entry 186 0x3fffe3 22, entry 187 0x3fffe4 22,
   entry 188 0x7ffff0 23, entry 189 0x3fffe5 22, entry 190 0x3fffe6 22, entry 191 0x7ffff1 23]

/-- `ROM_H2`, symbols 192 to 223 (R108, G1: from general knowledge). -/
def romH2Part6 : List CodeEntry :=
  [entry 192 0x3ffffe0 26, entry 193 0x3ffffe1 26, entry 194 0xfffeb 20, entry 195 0x7fff1 19,
   entry 196 0x3fffe7 22, entry 197 0x7ffff2 23, entry 198 0x3fffe8 22, entry 199 0x1ffffec 25,
   entry 200 0x3ffffe2 26, entry 201 0x3ffffe3 26, entry 202 0x3ffffe4 26, entry 203 0x7ffffde 27,
   entry 204 0x7ffffdf 27, entry 205 0x3ffffe5 26, entry 206 0xfffff1 24, entry 207 0x1ffffed 25,
   entry 208 0x7fff2 19, entry 209 0x1fffe3 21, entry 210 0x3ffffe6 26, entry 211 0x7ffffe0 27,
   entry 212 0x7ffffe1 27, entry 213 0x3ffffe7 26, entry 214 0x7ffffe2 27, entry 215 0xfffff2 24,
   entry 216 0x1fffe4 21, entry 217 0x1fffe5 21, entry 218 0x3ffffe8 26, entry 219 0x3ffffe9 26,
   entry 220 0xffffffd 28, entry 221 0x7ffffe3 27, entry 222 0x7ffffe4 27, entry 223 0x7ffffe5 27]

/-- `ROM_H2`, symbols 224 to 255 (R108, G1: from general knowledge). -/
def romH2Part7 : List CodeEntry :=
  [entry 224 0xfffec 20, entry 225 0xfffff3 24, entry 226 0xfffed 20, entry 227 0x1fffe6 21,
   entry 228 0x3fffe9 22, entry 229 0x1fffe7 21, entry 230 0x1fffe8 21, entry 231 0x7ffff3 23,
   entry 232 0x3fffea 22, entry 233 0x3fffeb 22, entry 234 0x1ffffee 25, entry 235 0x1ffffef 25,
   entry 236 0xfffff4 24, entry 237 0xfffff5 24, entry 238 0x3ffffea 26, entry 239 0x7ffff4 23,
   entry 240 0x3ffffeb 26, entry 241 0x7ffffe6 27, entry 242 0x3ffffec 26, entry 243 0x3ffffed 26,
   entry 244 0x7ffffe7 27, entry 245 0x7ffffe8 27, entry 246 0x7ffffe9 27, entry 247 0x7ffffea 27,
   entry 248 0x7ffffeb 27, entry 249 0xffffffe 28, entry 250 0x7ffffec 27, entry 251 0x7ffffed 27,
   entry 252 0x7ffffee 27, entry 253 0x7ffffef 27, entry 254 0x7fffff0 27, entry 255 0x3ffffee 26]

/-- `ROM_H2`, symbols 256 to 256 (R108, G1: from general knowledge). -/
def romH2Part8 : List CodeEntry :=
  [entry 256 0x3fffffff 30]

/-- `ROM_H2`, the default instance of `CODE_ROM` (R108; D1; log entry 2): PRESUMED, from general knowledge (G1). -/
def romH2 : List CodeEntry :=
  romH2Part0 ++ romH2Part1 ++ romH2Part2 ++ romH2Part3 ++ romH2Part4 ++ romH2Part5 ++ romH2Part6 ++ romH2Part7 ++ romH2Part8

end Sys2Proof
end

