-- ==== Sys2Proof/Config.lean ====
section
/-! DEFINITION. The constants of R7, and the free values: what the spec leaves open has no body here. -/

namespace Sys2Proof

/-- `NSYM` (R7): the number of entries of `ROM` and `DT`. -/
def nsym : Nat := 257

/-- `EOS` (R7): the index of the end-of-string pseudo-symbol. -/
def eosSymbol : Nat := 256

/-- `WINDOW_MAX` (R7): an entry longer than this is an internal error. -/
def windowMax : Nat := 32

/-- `ENC_INC` (R7): bytes added per growth of the encoder's output region. -/
def encInc : Nat := 100

/-- `DEC_INC` (R7): bytes added per growth of the decoder's output region. -/
def decInc : Nat := 1000

/-- `NULL` (R8, D7): the handle that stands for "none". -/
def nullHandle : Nat := 0

/-- An answer of `ALLOCATOR` (R160). `grant h` asks for the handle `h`; which handle a grant gives is
legalised by `allocHandle` and `growHandle`, so every value of this type is a legal answer (log entry 4). -/
inductive Answer where
  | deny
  | grant (h : Nat)
  deriving DecidableEq, Repr, Inhabited

/-- Free answer number `k` of `ALLOCATOR` (R164 (b), U14): no body, so no proof can see it. -/
opaque Config.freeAnswer (k : Nat) : Answer

/-- Free value number `k` of width `n`: what a register whose content is unspecified holds (R25, R50, U11,
U12, U15). -/
opaque Config.freeBits (n k : Nat) : BitVec n

/-- The byte at offset `i` of a region that nobody has written since its grant number `seed` (R69, U6). -/
opaque Config.freeByte (seed i : Nat) : Byte

end Sys2Proof
end

