-- ==== Sys2Proof/Syntax.lean ====
section
/-! DEFINITION. The instructions: one constructor per row of spec/opcode_table.json. -/

namespace Sys2Proof

/-- The five encoding spaces of the table (30_encoding.md; `micro` rows have no encoding). -/
inductive Format where
  | cmd
  | areq
  | resKind
  | micro
  | huffcode
  deriving DecidableEq, Repr

/-- An encoded instruction, in the space it belongs to: a word written to `CMD` (R91), a request on the allocator
interface with its argument words (R97; log entry 13), a result kind with the three other result words (R94, R256;
log entry 14), the bits of a code at the current offset of the compressed stream, first stream bit first (R110). -/
inductive EncWord where
  | cmd (w : Nat)
  | areq (op : BitVec 3) (args : List Nat)
  | kind (code : BitVec 2) (ptr len cap : Nat)
  | code (bits : List Bool)
  deriving DecidableEq, Repr

/-- The instructions. -/
inductive Instr where
  | prewarm  -- PREWARM: R142
  | encode  -- ENCODE: R180
  | decode  -- DECODE: R210
  | areqAlloc (size : Nat) (zero : Bool)  -- AREQ.ALLOC: R161
  | areqGrow (handle size : Nat) (zero : Bool)  -- AREQ.GROW: R162
  | areqRelease (handle : Nat)  -- AREQ.RELEASE: R163
  | areqAllocTable  -- AREQ.ALLOC_TABLE: R140, R97
  | kindOk (ptr len cap : Nat)  -- KIND.OK: `complete`, R257
  | kindOutOfMemory (ptr len cap : Nat)  -- KIND.OutOfMemory: `raise OutOfMemory`, R256
  | kindInitializationFailed (ptr len cap : Nat)  -- KIND.InitializationFailed: `raise InitializationFailed`, R256
  | kindInternal (ptr len cap : Nat)  -- KIND.Internal: `raise Internal`, R256
  | romLookup (sym : BitVec 9)  -- ROM.LOOKUP: R130
  | dtBuild  -- DT.BUILD: R140
  | obAlloc (size inc : Nat) (zero : Bool)  -- OB.ALLOC: R165
  | obAdopt (handle cap inc : Nat) (zero : Bool)  -- OB.ADOPT: R166
  | obEnsure (idx : Nat)  -- OB.ENSURE: R167
  | obGrow  -- OB.GROW: R168
  | obRelease  -- OB.RELEASE: R169
  | encAlloc  -- ENC.ALLOC: R183
  | encFetch  -- ENC.FETCH: R184
  | encPack  -- ENC.PACK: R185
  | encPad  -- ENC.PAD: R186
  | decInit  -- DEC.INIT: R211
  | decStart  -- DEC.START: R212
  | decScan  -- DEC.SCAN: R214
  | decWindow (len : BitVec 6)  -- DEC.WINDOW: R216
  | decEmit (k : BitVec 9)  -- DEC.EMIT: R218
  | decTerm  -- DEC.TERM: R219
  -- HUFFCODE.s: the code of symbol s in the stream (R108, R110, R113)
  | huffcode0 | huffcode1 | huffcode2 | huffcode3 | huffcode4 | huffcode5 | huffcode6 | huffcode7 | huffcode8 | huffcode9
  | huffcode10 | huffcode11 | huffcode12 | huffcode13 | huffcode14 | huffcode15 | huffcode16 | huffcode17 | huffcode18 | huffcode19
  | huffcode20 | huffcode21 | huffcode22 | huffcode23 | huffcode24 | huffcode25 | huffcode26 | huffcode27 | huffcode28 | huffcode29
  | huffcode30 | huffcode31 | huffcode32 | huffcode33 | huffcode34 | huffcode35 | huffcode36 | huffcode37 | huffcode38 | huffcode39
  | huffcode40 | huffcode41 | huffcode42 | huffcode43 | huffcode44 | huffcode45 | huffcode46 | huffcode47 | huffcode48 | huffcode49
  | huffcode50 | huffcode51 | huffcode52 | huffcode53 | huffcode54 | huffcode55 | huffcode56 | huffcode57 | huffcode58 | huffcode59
  | huffcode60 | huffcode61 | huffcode62 | huffcode63 | huffcode64 | huffcode65 | huffcode66 | huffcode67 | huffcode68 | huffcode69
  | huffcode70 | huffcode71 | huffcode72 | huffcode73 | huffcode74 | huffcode75 | huffcode76 | huffcode77 | huffcode78 | huffcode79
  | huffcode80 | huffcode81 | huffcode82 | huffcode83 | huffcode84 | huffcode85 | huffcode86 | huffcode87 | huffcode88 | huffcode89
  | huffcode90 | huffcode91 | huffcode92 | huffcode93 | huffcode94 | huffcode95 | huffcode96 | huffcode97 | huffcode98 | huffcode99
  | huffcode100 | huffcode101 | huffcode102 | huffcode103 | huffcode104 | huffcode105 | huffcode106 | huffcode107 | huffcode108 | huffcode109
  | huffcode110 | huffcode111 | huffcode112 | huffcode113 | huffcode114 | huffcode115 | huffcode116 | huffcode117 | huffcode118 | huffcode119
  | huffcode120 | huffcode121 | huffcode122 | huffcode123 | huffcode124 | huffcode125 | huffcode126 | huffcode127 | huffcode128 | huffcode129
  | huffcode130 | huffcode131 | huffcode132 | huffcode133 | huffcode134 | huffcode135 | huffcode136 | huffcode137 | huffcode138 | huffcode139
  | huffcode140 | huffcode141 | huffcode142 | huffcode143 | huffcode144 | huffcode145 | huffcode146 | huffcode147 | huffcode148 | huffcode149
  | huffcode150 | huffcode151 | huffcode152 | huffcode153 | huffcode154 | huffcode155 | huffcode156 | huffcode157 | huffcode158 | huffcode159
  | huffcode160 | huffcode161 | huffcode162 | huffcode163 | huffcode164 | huffcode165 | huffcode166 | huffcode167 | huffcode168 | huffcode169
  | huffcode170 | huffcode171 | huffcode172 | huffcode173 | huffcode174 | huffcode175 | huffcode176 | huffcode177 | huffcode178 | huffcode179
  | huffcode180 | huffcode181 | huffcode182 | huffcode183 | huffcode184 | huffcode185 | huffcode186 | huffcode187 | huffcode188 | huffcode189
  | huffcode190 | huffcode191 | huffcode192 | huffcode193 | huffcode194 | huffcode195 | huffcode196 | huffcode197 | huffcode198 | huffcode199
  | huffcode200 | huffcode201 | huffcode202 | huffcode203 | huffcode204 | huffcode205 | huffcode206 | huffcode207 | huffcode208 | huffcode209
  | huffcode210 | huffcode211 | huffcode212 | huffcode213 | huffcode214 | huffcode215 | huffcode216 | huffcode217 | huffcode218 | huffcode219
  | huffcode220 | huffcode221 | huffcode222 | huffcode223 | huffcode224 | huffcode225 | huffcode226 | huffcode227 | huffcode228 | huffcode229
  | huffcode230 | huffcode231 | huffcode232 | huffcode233 | huffcode234 | huffcode235 | huffcode236 | huffcode237 | huffcode238 | huffcode239
  | huffcode240 | huffcode241 | huffcode242 | huffcode243 | huffcode244 | huffcode245 | huffcode246 | huffcode247 | huffcode248 | huffcode249
  | huffcode250 | huffcode251 | huffcode252 | huffcode253 | huffcode254 | huffcode255 | huffcode256
  deriving DecidableEq, Repr

/-- Code instructions of symbols 0 to 31, in symbol order. -/
def codeInstrs0 : List Instr :=
  [.huffcode0, .huffcode1, .huffcode2, .huffcode3, .huffcode4, .huffcode5, .huffcode6, .huffcode7,
   .huffcode8, .huffcode9, .huffcode10, .huffcode11, .huffcode12, .huffcode13, .huffcode14, .huffcode15,
   .huffcode16, .huffcode17, .huffcode18, .huffcode19, .huffcode20, .huffcode21, .huffcode22, .huffcode23,
   .huffcode24, .huffcode25, .huffcode26, .huffcode27, .huffcode28, .huffcode29, .huffcode30, .huffcode31]

/-- Code instructions of symbols 32 to 63, in symbol order. -/
def codeInstrs1 : List Instr :=
  [.huffcode32, .huffcode33, .huffcode34, .huffcode35, .huffcode36, .huffcode37, .huffcode38, .huffcode39,
   .huffcode40, .huffcode41, .huffcode42, .huffcode43, .huffcode44, .huffcode45, .huffcode46, .huffcode47,
   .huffcode48, .huffcode49, .huffcode50, .huffcode51, .huffcode52, .huffcode53, .huffcode54, .huffcode55,
   .huffcode56, .huffcode57, .huffcode58, .huffcode59, .huffcode60, .huffcode61, .huffcode62, .huffcode63]

/-- Code instructions of symbols 64 to 95, in symbol order. -/
def codeInstrs2 : List Instr :=
  [.huffcode64, .huffcode65, .huffcode66, .huffcode67, .huffcode68, .huffcode69, .huffcode70, .huffcode71,
   .huffcode72, .huffcode73, .huffcode74, .huffcode75, .huffcode76, .huffcode77, .huffcode78, .huffcode79,
   .huffcode80, .huffcode81, .huffcode82, .huffcode83, .huffcode84, .huffcode85, .huffcode86, .huffcode87,
   .huffcode88, .huffcode89, .huffcode90, .huffcode91, .huffcode92, .huffcode93, .huffcode94, .huffcode95]

/-- Code instructions of symbols 96 to 127, in symbol order. -/
def codeInstrs3 : List Instr :=
  [.huffcode96, .huffcode97, .huffcode98, .huffcode99, .huffcode100, .huffcode101, .huffcode102, .huffcode103,
   .huffcode104, .huffcode105, .huffcode106, .huffcode107, .huffcode108, .huffcode109, .huffcode110, .huffcode111,
   .huffcode112, .huffcode113, .huffcode114, .huffcode115, .huffcode116, .huffcode117, .huffcode118, .huffcode119,
   .huffcode120, .huffcode121, .huffcode122, .huffcode123, .huffcode124, .huffcode125, .huffcode126, .huffcode127]

/-- Code instructions of symbols 128 to 159, in symbol order. -/
def codeInstrs4 : List Instr :=
  [.huffcode128, .huffcode129, .huffcode130, .huffcode131, .huffcode132, .huffcode133, .huffcode134, .huffcode135,
   .huffcode136, .huffcode137, .huffcode138, .huffcode139, .huffcode140, .huffcode141, .huffcode142, .huffcode143,
   .huffcode144, .huffcode145, .huffcode146, .huffcode147, .huffcode148, .huffcode149, .huffcode150, .huffcode151,
   .huffcode152, .huffcode153, .huffcode154, .huffcode155, .huffcode156, .huffcode157, .huffcode158, .huffcode159]

/-- Code instructions of symbols 160 to 191, in symbol order. -/
def codeInstrs5 : List Instr :=
  [.huffcode160, .huffcode161, .huffcode162, .huffcode163, .huffcode164, .huffcode165, .huffcode166, .huffcode167,
   .huffcode168, .huffcode169, .huffcode170, .huffcode171, .huffcode172, .huffcode173, .huffcode174, .huffcode175,
   .huffcode176, .huffcode177, .huffcode178, .huffcode179, .huffcode180, .huffcode181, .huffcode182, .huffcode183,
   .huffcode184, .huffcode185, .huffcode186, .huffcode187, .huffcode188, .huffcode189, .huffcode190, .huffcode191]

/-- Code instructions of symbols 192 to 223, in symbol order. -/
def codeInstrs6 : List Instr :=
  [.huffcode192, .huffcode193, .huffcode194, .huffcode195, .huffcode196, .huffcode197, .huffcode198, .huffcode199,
   .huffcode200, .huffcode201, .huffcode202, .huffcode203, .huffcode204, .huffcode205, .huffcode206, .huffcode207,
   .huffcode208, .huffcode209, .huffcode210, .huffcode211, .huffcode212, .huffcode213, .huffcode214, .huffcode215,
   .huffcode216, .huffcode217, .huffcode218, .huffcode219, .huffcode220, .huffcode221, .huffcode222, .huffcode223]

/-- Code instructions of symbols 224 to 255, in symbol order. -/
def codeInstrs7 : List Instr :=
  [.huffcode224, .huffcode225, .huffcode226, .huffcode227, .huffcode228, .huffcode229, .huffcode230, .huffcode231,
   .huffcode232, .huffcode233, .huffcode234, .huffcode235, .huffcode236, .huffcode237, .huffcode238, .huffcode239,
   .huffcode240, .huffcode241, .huffcode242, .huffcode243, .huffcode244, .huffcode245, .huffcode246, .huffcode247,
   .huffcode248, .huffcode249, .huffcode250, .huffcode251, .huffcode252, .huffcode253, .huffcode254, .huffcode255]

/-- Code instructions of symbols 256 to 256, in symbol order. -/
def codeInstrs8 : List Instr :=
  [.huffcode256]

/-- The code instructions in symbol order. -/
def codeInstrs : List Instr :=
  codeInstrs0 ++ codeInstrs1 ++ codeInstrs2 ++ codeInstrs3 ++ codeInstrs4 ++ codeInstrs5 ++ codeInstrs6 ++ codeInstrs7 ++ codeInstrs8

/-- The instruction HUFFCODE.`s`, where `s` is a symbol. -/
def codeInstr (s : Nat) : Option Instr := codeInstrs[s]?

/-- The symbol whose code the instruction is; none for the rows of the other formats. -/
def Instr.symbol? : Instr → Option Nat
  | .prewarm => none
  | .encode => none
  | .decode => none
  | .areqAlloc _ _ => none
  | .areqGrow _ _ _ => none
  | .areqRelease _ => none
  | .areqAllocTable => none
  | .kindOk _ _ _ => none
  | .kindOutOfMemory _ _ _ => none
  | .kindInitializationFailed _ _ _ => none
  | .kindInternal _ _ _ => none
  | .romLookup _ => none
  | .dtBuild => none
  | .obAlloc _ _ _ => none
  | .obAdopt _ _ _ _ => none
  | .obEnsure _ => none
  | .obGrow => none
  | .obRelease => none
  | .encAlloc => none
  | .encFetch => none
  | .encPack => none
  | .encPad => none
  | .decInit => none
  | .decStart => none
  | .decScan => none
  | .decWindow _ => none
  | .decEmit _ => none
  | .decTerm => none
  | .huffcode0 => some 0
  | .huffcode1 => some 1
  | .huffcode2 => some 2
  | .huffcode3 => some 3
  | .huffcode4 => some 4
  | .huffcode5 => some 5
  | .huffcode6 => some 6
  | .huffcode7 => some 7
  | .huffcode8 => some 8
  | .huffcode9 => some 9
  | .huffcode10 => some 10
  | .huffcode11 => some 11
  | .huffcode12 => some 12
  | .huffcode13 => some 13
  | .huffcode14 => some 14
  | .huffcode15 => some 15
  | .huffcode16 => some 16
  | .huffcode17 => some 17
  | .huffcode18 => some 18
  | .huffcode19 => some 19
  | .huffcode20 => some 20
  | .huffcode21 => some 21
  | .huffcode22 => some 22
  | .huffcode23 => some 23
  | .huffcode24 => some 24
  | .huffcode25 => some 25
  | .huffcode26 => some 26
  | .huffcode27 => some 27
  | .huffcode28 => some 28
  | .huffcode29 => some 29
  | .huffcode30 => some 30
  | .huffcode31 => some 31
  | .huffcode32 => some 32
  | .huffcode33 => some 33
  | .huffcode34 => some 34
  | .huffcode35 => some 35
  | .huffcode36 => some 36
  | .huffcode37 => some 37
  | .huffcode38 => some 38
  | .huffcode39 => some 39
  | .huffcode40 => some 40
  | .huffcode41 => some 41
  | .huffcode42 => some 42
  | .huffcode43 => some 43
  | .huffcode44 => some 44
  | .huffcode45 => some 45
  | .huffcode46 => some 46
  | .huffcode47 => some 47
  | .huffcode48 => some 48
  | .huffcode49 => some 49
  | .huffcode50 => some 50
  | .huffcode51 => some 51
  | .huffcode52 => some 52
  | .huffcode53 => some 53
  | .huffcode54 => some 54
  | .huffcode55 => some 55
  | .huffcode56 => some 56
  | .huffcode57 => some 57
  | .huffcode58 => some 58
  | .huffcode59 => some 59
  | .huffcode60 => some 60
  | .huffcode61 => some 61
  | .huffcode62 => some 62
  | .huffcode63 => some 63
  | .huffcode64 => some 64
  | .huffcode65 => some 65
  | .huffcode66 => some 66
  | .huffcode67 => some 67
  | .huffcode68 => some 68
  | .huffcode69 => some 69
  | .huffcode70 => some 70
  | .huffcode71 => some 71
  | .huffcode72 => some 72
  | .huffcode73 => some 73
  | .huffcode74 => some 74
  | .huffcode75 => some 75
  | .huffcode76 => some 76
  | .huffcode77 => some 77
  | .huffcode78 => some 78
  | .huffcode79 => some 79
  | .huffcode80 => some 80
  | .huffcode81 => some 81
  | .huffcode82 => some 82
  | .huffcode83 => some 83
  | .huffcode84 => some 84
  | .huffcode85 => some 85
  | .huffcode86 => some 86
  | .huffcode87 => some 87
  | .huffcode88 => some 88
  | .huffcode89 => some 89
  | .huffcode90 => some 90
  | .huffcode91 => some 91
  | .huffcode92 => some 92
  | .huffcode93 => some 93
  | .huffcode94 => some 94
  | .huffcode95 => some 95
  | .huffcode96 => some 96
  | .huffcode97 => some 97
  | .huffcode98 => some 98
  | .huffcode99 => some 99
  | .huffcode100 => some 100
  | .huffcode101 => some 101
  | .huffcode102 => some 102
  | .huffcode103 => some 103
  | .huffcode104 => some 104
  | .huffcode105 => some 105
  | .huffcode106 => some 106
  | .huffcode107 => some 107
  | .huffcode108 => some 108
  | .huffcode109 => some 109
  | .huffcode110 => some 110
  | .huffcode111 => some 111
  | .huffcode112 => some 112
  | .huffcode113 => some 113
  | .huffcode114 => some 114
  | .huffcode115 => some 115
  | .huffcode116 => some 116
  | .huffcode117 => some 117
  | .huffcode118 => some 118
  | .huffcode119 => some 119
  | .huffcode120 => some 120
  | .huffcode121 => some 121
  | .huffcode122 => some 122
  | .huffcode123 => some 123
  | .huffcode124 => some 124
  | .huffcode125 => some 125
  | .huffcode126 => some 126
  | .huffcode127 => some 127
  | .huffcode128 => some 128
  | .huffcode129 => some 129
  | .huffcode130 => some 130
  | .huffcode131 => some 131
  | .huffcode132 => some 132
  | .huffcode133 => some 133
  | .huffcode134 => some 134
  | .huffcode135 => some 135
  | .huffcode136 => some 136
  | .huffcode137 => some 137
  | .huffcode138 => some 138
  | .huffcode139 => some 139
  | .huffcode140 => some 140
  | .huffcode141 => some 141
  | .huffcode142 => some 142
  | .huffcode143 => some 143
  | .huffcode144 => some 144
  | .huffcode145 => some 145
  | .huffcode146 => some 146
  | .huffcode147 => some 147
  | .huffcode148 => some 148
  | .huffcode149 => some 149
  | .huffcode150 => some 150
  | .huffcode151 => some 151
  | .huffcode152 => some 152
  | .huffcode153 => some 153
  | .huffcode154 => some 154
  | .huffcode155 => some 155
  | .huffcode156 => some 156
  | .huffcode157 => some 157
  | .huffcode158 => some 158
  | .huffcode159 => some 159
  | .huffcode160 => some 160
  | .huffcode161 => some 161
  | .huffcode162 => some 162
  | .huffcode163 => some 163
  | .huffcode164 => some 164
  | .huffcode165 => some 165
  | .huffcode166 => some 166
  | .huffcode167 => some 167
  | .huffcode168 => some 168
  | .huffcode169 => some 169
  | .huffcode170 => some 170
  | .huffcode171 => some 171
  | .huffcode172 => some 172
  | .huffcode173 => some 173
  | .huffcode174 => some 174
  | .huffcode175 => some 175
  | .huffcode176 => some 176
  | .huffcode177 => some 177
  | .huffcode178 => some 178
  | .huffcode179 => some 179
  | .huffcode180 => some 180
  | .huffcode181 => some 181
  | .huffcode182 => some 182
  | .huffcode183 => some 183
  | .huffcode184 => some 184
  | .huffcode185 => some 185
  | .huffcode186 => some 186
  | .huffcode187 => some 187
  | .huffcode188 => some 188
  | .huffcode189 => some 189
  | .huffcode190 => some 190
  | .huffcode191 => some 191
  | .huffcode192 => some 192
  | .huffcode193 => some 193
  | .huffcode194 => some 194
  | .huffcode195 => some 195
  | .huffcode196 => some 196
  | .huffcode197 => some 197
  | .huffcode198 => some 198
  | .huffcode199 => some 199
  | .huffcode200 => some 200
  | .huffcode201 => some 201
  | .huffcode202 => some 202
  | .huffcode203 => some 203
  | .huffcode204 => some 204
  | .huffcode205 => some 205
  | .huffcode206 => some 206
  | .huffcode207 => some 207
  | .huffcode208 => some 208
  | .huffcode209 => some 209
  | .huffcode210 => some 210
  | .huffcode211 => some 211
  | .huffcode212 => some 212
  | .huffcode213 => some 213
  | .huffcode214 => some 214
  | .huffcode215 => some 215
  | .huffcode216 => some 216
  | .huffcode217 => some 217
  | .huffcode218 => some 218
  | .huffcode219 => some 219
  | .huffcode220 => some 220
  | .huffcode221 => some 221
  | .huffcode222 => some 222
  | .huffcode223 => some 223
  | .huffcode224 => some 224
  | .huffcode225 => some 225
  | .huffcode226 => some 226
  | .huffcode227 => some 227
  | .huffcode228 => some 228
  | .huffcode229 => some 229
  | .huffcode230 => some 230
  | .huffcode231 => some 231
  | .huffcode232 => some 232
  | .huffcode233 => some 233
  | .huffcode234 => some 234
  | .huffcode235 => some 235
  | .huffcode236 => some 236
  | .huffcode237 => some 237
  | .huffcode238 => some 238
  | .huffcode239 => some 239
  | .huffcode240 => some 240
  | .huffcode241 => some 241
  | .huffcode242 => some 242
  | .huffcode243 => some 243
  | .huffcode244 => some 244
  | .huffcode245 => some 245
  | .huffcode246 => some 246
  | .huffcode247 => some 247
  | .huffcode248 => some 248
  | .huffcode249 => some 249
  | .huffcode250 => some 250
  | .huffcode251 => some 251
  | .huffcode252 => some 252
  | .huffcode253 => some 253
  | .huffcode254 => some 254
  | .huffcode255 => some 255
  | .huffcode256 => some 256

/-- The format of the row. -/
def Instr.format : Instr → Format
  | .prewarm => .cmd
  | .encode => .cmd
  | .decode => .cmd
  | .areqAlloc _ _ => .areq
  | .areqGrow _ _ _ => .areq
  | .areqRelease _ => .areq
  | .areqAllocTable => .areq
  | .kindOk _ _ _ => .resKind
  | .kindOutOfMemory _ _ _ => .resKind
  | .kindInitializationFailed _ _ _ => .resKind
  | .kindInternal _ _ _ => .resKind
  | .romLookup _ => .micro
  | .dtBuild => .micro
  | .obAlloc _ _ _ => .micro
  | .obAdopt _ _ _ _ => .micro
  | .obEnsure _ => .micro
  | .obGrow => .micro
  | .obRelease => .micro
  | .encAlloc => .micro
  | .encFetch => .micro
  | .encPack => .micro
  | .encPad => .micro
  | .decInit => .micro
  | .decStart => .micro
  | .decScan => .micro
  | .decWindow _ => .micro
  | .decEmit _ => .micro
  | .decTerm => .micro
  | .huffcode0 | .huffcode1 | .huffcode2 | .huffcode3 | .huffcode4 | .huffcode5 | .huffcode6 | .huffcode7
  | .huffcode8 | .huffcode9 | .huffcode10 | .huffcode11 | .huffcode12 | .huffcode13 | .huffcode14 | .huffcode15
  | .huffcode16 | .huffcode17 | .huffcode18 | .huffcode19 | .huffcode20 | .huffcode21 | .huffcode22 | .huffcode23
  | .huffcode24 | .huffcode25 | .huffcode26 | .huffcode27 | .huffcode28 | .huffcode29 | .huffcode30 | .huffcode31
  | .huffcode32 | .huffcode33 | .huffcode34 | .huffcode35 | .huffcode36 | .huffcode37 | .huffcode38 | .huffcode39
  | .huffcode40 | .huffcode41 | .huffcode42 | .huffcode43 | .huffcode44 | .huffcode45 | .huffcode46 | .huffcode47
  | .huffcode48 | .huffcode49 | .huffcode50 | .huffcode51 | .huffcode52 | .huffcode53 | .huffcode54 | .huffcode55
  | .huffcode56 | .huffcode57 | .huffcode58 | .huffcode59 | .huffcode60 | .huffcode61 | .huffcode62 | .huffcode63
  | .huffcode64 | .huffcode65 | .huffcode66 | .huffcode67 | .huffcode68 | .huffcode69 | .huffcode70 | .huffcode71
  | .huffcode72 | .huffcode73 | .huffcode74 | .huffcode75 | .huffcode76 | .huffcode77 | .huffcode78 | .huffcode79
  | .huffcode80 | .huffcode81 | .huffcode82 | .huffcode83 | .huffcode84 | .huffcode85 | .huffcode86 | .huffcode87
  | .huffcode88 | .huffcode89 | .huffcode90 | .huffcode91 | .huffcode92 | .huffcode93 | .huffcode94 | .huffcode95
  | .huffcode96 | .huffcode97 | .huffcode98 | .huffcode99 | .huffcode100 | .huffcode101 | .huffcode102 | .huffcode103
  | .huffcode104 | .huffcode105 | .huffcode106 | .huffcode107 | .huffcode108 | .huffcode109 | .huffcode110 | .huffcode111
  | .huffcode112 | .huffcode113 | .huffcode114 | .huffcode115 | .huffcode116 | .huffcode117 | .huffcode118 | .huffcode119
  | .huffcode120 | .huffcode121 | .huffcode122 | .huffcode123 | .huffcode124 | .huffcode125 | .huffcode126 | .huffcode127
  | .huffcode128 | .huffcode129 | .huffcode130 | .huffcode131 | .huffcode132 | .huffcode133 | .huffcode134 | .huffcode135
  | .huffcode136 | .huffcode137 | .huffcode138 | .huffcode139 | .huffcode140 | .huffcode141 | .huffcode142 | .huffcode143
  | .huffcode144 | .huffcode145 | .huffcode146 | .huffcode147 | .huffcode148 | .huffcode149 | .huffcode150 | .huffcode151
  | .huffcode152 | .huffcode153 | .huffcode154 | .huffcode155 | .huffcode156 | .huffcode157 | .huffcode158 | .huffcode159
  | .huffcode160 | .huffcode161 | .huffcode162 | .huffcode163 | .huffcode164 | .huffcode165 | .huffcode166 | .huffcode167
  | .huffcode168 | .huffcode169 | .huffcode170 | .huffcode171 | .huffcode172 | .huffcode173 | .huffcode174 | .huffcode175
  | .huffcode176 | .huffcode177 | .huffcode178 | .huffcode179 | .huffcode180 | .huffcode181 | .huffcode182 | .huffcode183
  | .huffcode184 | .huffcode185 | .huffcode186 | .huffcode187 | .huffcode188 | .huffcode189 | .huffcode190 | .huffcode191
  | .huffcode192 | .huffcode193 | .huffcode194 | .huffcode195 | .huffcode196 | .huffcode197 | .huffcode198 | .huffcode199
  | .huffcode200 | .huffcode201 | .huffcode202 | .huffcode203 | .huffcode204 | .huffcode205 | .huffcode206 | .huffcode207
  | .huffcode208 | .huffcode209 | .huffcode210 | .huffcode211 | .huffcode212 | .huffcode213 | .huffcode214 | .huffcode215
  | .huffcode216 | .huffcode217 | .huffcode218 | .huffcode219 | .huffcode220 | .huffcode221 | .huffcode222 | .huffcode223
  | .huffcode224 | .huffcode225 | .huffcode226 | .huffcode227 | .huffcode228 | .huffcode229 | .huffcode230 | .huffcode231
  | .huffcode232 | .huffcode233 | .huffcode234 | .huffcode235 | .huffcode236 | .huffcode237 | .huffcode238 | .huffcode239
  | .huffcode240 | .huffcode241 | .huffcode242 | .huffcode243 | .huffcode244 | .huffcode245 | .huffcode246 | .huffcode247
  | .huffcode248 | .huffcode249 | .huffcode250 | .huffcode251 | .huffcode252 | .huffcode253 | .huffcode254 | .huffcode255
  | .huffcode256 => .huffcode

end Sys2Proof
end

