-- ==== Sys2Proof/WellFormed.lean ====
section
/-! DEFINITION. Which operand values an instruction may have (the operand clauses of the rules of each row). -/

namespace Sys2Proof

/-- The operands are in the range the row's rule gives: a symbol or table index is at most 256 (R130, R218), a growth
increment is 100 or 1000 and an adopted handle is not `NULL` (R165, R166), a window covers 1 to 32 bits (R216).
The other rows have no operands or take any. -/
def Instr.wellFormed : Instr → Bool
  | .prewarm => true
  | .encode => true
  | .decode => true
  | .areqAlloc _ _ => true
  | .areqGrow _ _ _ => true
  | .areqRelease _ => true
  | .areqAllocTable => true
  | .kindOk _ _ _ => true
  | .kindOutOfMemory _ _ _ => true
  | .kindInitializationFailed _ _ _ => true
  | .kindInternal _ _ _ => true
  | .romLookup sym => decide (sym.toNat ≤ 256)
  | .dtBuild => true
  | .obAlloc _ inc _ => inc == encInc || inc == decInc
  | .obAdopt handle _ inc _ => handle != nullHandle && (inc == encInc || inc == decInc)
  | .obEnsure _ => true
  | .obGrow => true
  | .obRelease => true
  | .encAlloc => true
  | .encFetch => true
  | .encPack => true
  | .encPad => true
  | .decInit => true
  | .decStart => true
  | .decScan => true
  | .decWindow len => decide (1 ≤ len.toNat) && decide (len.toNat ≤ windowMax)
  | .decEmit k => decide (k.toNat ≤ 256)
  | .decTerm => true
  | .huffcode0 | .huffcode1 | .huffcode2 | .huffcode3 | .huffcode4 | .huffcode5 | .huffcode6 | .huffcode7
  | .huffcode8 | .huffcode9 | .huffcode10 | .huffcode11 | .huffcode12 | .huffcode13 | .huffcode14 | .huffcode15
  | .huffcode16 | .huffcode17 | .huffcode18 | .huffcode19 | .huffcode20 | .huffcode21 | .huffcode22 | .huffcode23
  | .huffcode24 | .huffcode25 | .huffcode26 | .huffcode27 | .huffcode28 | .huffcode29 | .huffcode30 | .huffcode31
  | .huffcode32 | .huffcode33 | .huffcode34 | .huffcode35 | .huffcode36 | .huffcode37 | .huffcode38 | .huffcode39
  | .huffcode40 | .huffcode41 | .huffcode42 | .huffcode43 | .huffcode44 | .huffcode45 | .huffcode46 | .huffcode47
  | .huffcode48 | .huffcode49 | .huffcode50 | .huffcode51 | .huffcode52 | .huffcode53 | .huffcode54 | .huffcode55
  | .huffcode56 | .huffcode57 | .huffcode58 | .huffcode59 | .huffcode60 | .huffcode61 | .huffcode62 | .huffcode63
  | .huffcode64 | .huffcode65 | .huffcode66 | .huffcode67 | .huffcode68 | .huffcode69 | .huffcode70 | .huffcode71
  | .huffcode72 | .huffcode73 | .huffcode74 | .huffcode75 | .huffcode76 | .huffcode77 | .huffcode78 | .huffcode79
  | .huffcode80 | .huffcode81 | .huffcode82 | .huffcode83 | .huffcode84 | .huffcode85 | .huffcode86 | .huffcode87
  | .huffcode88 | .huffcode89 | .huffcode90 | .huffcode91 | .huffcode92 | .huffcode93 | .huffcode94 | .huffcode95
  | .huffcode96 | .huffcode97 | .huffcode98 | .huffcode99 | .huffcode100 | .huffcode101 | .huffcode102 | .huffcode103
  | .huffcode104 | .huffcode105 | .huffcode106 | .huffcode107 | .huffcode108 | .huffcode109 | .huffcode110 | .huffcode111
  | .huffcode112 | .huffcode113 | .huffcode114 | .huffcode115 | .huffcode116 | .huffcode117 | .huffcode118 | .huffcode119
  | .huffcode120 | .huffcode121 | .huffcode122 | .huffcode123 | .huffcode124 | .huffcode125 | .huffcode126 | .huffcode127
  | .huffcode128 | .huffcode129 | .huffcode130 | .huffcode131 | .huffcode132 | .huffcode133 | .huffcode134 | .huffcode135
  | .huffcode136 | .huffcode137 | .huffcode138 | .huffcode139 | .huffcode140 | .huffcode141 | .huffcode142 | .huffcode143
  | .huffcode144 | .huffcode145 | .huffcode146 | .huffcode147 | .huffcode148 | .huffcode149 | .huffcode150 | .huffcode151
  | .huffcode152 | .huffcode153 | .huffcode154 | .huffcode155 | .huffcode156 | .huffcode157 | .huffcode158 | .huffcode159
  | .huffcode160 | .huffcode161 | .huffcode162 | .huffcode163 | .huffcode164 | .huffcode165 | .huffcode166 | .huffcode167
  | .huffcode168 | .huffcode169 | .huffcode170 | .huffcode171 | .huffcode172 | .huffcode173 | .huffcode174 | .huffcode175
  | .huffcode176 | .huffcode177 | .huffcode178 | .huffcode179 | .huffcode180 | .huffcode181 | .huffcode182 | .huffcode183
  | .huffcode184 | .huffcode185 | .huffcode186 | .huffcode187 | .huffcode188 | .huffcode189 | .huffcode190 | .huffcode191
  | .huffcode192 | .huffcode193 | .huffcode194 | .huffcode195 | .huffcode196 | .huffcode197 | .huffcode198 | .huffcode199
  | .huffcode200 | .huffcode201 | .huffcode202 | .huffcode203 | .huffcode204 | .huffcode205 | .huffcode206 | .huffcode207
  | .huffcode208 | .huffcode209 | .huffcode210 | .huffcode211 | .huffcode212 | .huffcode213 | .huffcode214 | .huffcode215
  | .huffcode216 | .huffcode217 | .huffcode218 | .huffcode219 | .huffcode220 | .huffcode221 | .huffcode222 | .huffcode223
  | .huffcode224 | .huffcode225 | .huffcode226 | .huffcode227 | .huffcode228 | .huffcode229 | .huffcode230 | .huffcode231
  | .huffcode232 | .huffcode233 | .huffcode234 | .huffcode235 | .huffcode236 | .huffcode237 | .huffcode238 | .huffcode239
  | .huffcode240 | .huffcode241 | .huffcode242 | .huffcode243 | .huffcode244 | .huffcode245 | .huffcode246 | .huffcode247
  | .huffcode248 | .huffcode249 | .huffcode250 | .huffcode251 | .huffcode252 | .huffcode253 | .huffcode254 | .huffcode255
  | .huffcode256 => true

end Sys2Proof
end

