-- ==== Sys2Proof/Decode.lean ====
section
/-! DEFINITION. Decoding and encoding of the five encoding spaces (30_encoding.md). -/

namespace Sys2Proof

/-- Why a word is no instruction (R91, R97, R114; R105 for a bit string that no code begins). -/
inductive DecodeError where
  /-- `CMD.op` = 0, or allocator request `op` 0 or 5 to 7 (R91, R97, R114). -/
  | reservedOp
  /-- A non-zero reserved bit of a `CMD` word (R114 (a)). -/
  | reservedBits
  /-- An argument word of a request is missing, or its `zero` word is not 0 or 1 (log entry 13). -/
  | badArguments
  /-- Words or bits are left over after the instruction. -/
  | trailing
  /-- No code of the table is a prefix of the bits (R221). -/
  | noCode
  deriving DecidableEq, Repr

/-- The code of an entry as stream bits, most significant first (R99, R110). -/
def CodeEntry.bits (e : CodeEntry) : List Bool :=
  (List.range e.length.toNat).map fun j => e.code.getLsbD (e.length.toNat - 1 - j)

/-- The 47-bit word that holds an entry: symbol [46:38], length [37:32], code [31:0] (R98). -/
def CodeEntry.toWord (e : CodeEntry) : BitVec 47 := e.symbol ++ e.length ++ e.code

/-- The entry in a 47-bit word (R98). -/
def CodeEntry.ofWord (w : BitVec 47) : CodeEntry :=
  { symbol := w.extractLsb' 38 9, length := w.extractLsb' 32 6, code := w.extractLsb' 0 32 }

/-- The command word (R91): op in bits [1:0], every other bit zero. -/
def decodeCmd (w : Nat) : Except DecodeError Instr :=
  if w / 4 ≠ 0 then .error .reservedBits
  else
    match w % 4 with
    | 1 => .ok .prewarm
    | 2 => .ok .encode
    | 3 => .ok .decode
    | _ => .error .reservedOp

/-- The `zero` argument of a request: the word 0 or 1 (log entry 13). -/
def decodeZero (w : Nat) : Option Bool :=
  if w = 0 then some false else if w = 1 then some true else none

/-- A request on the allocator interface (R97), and the argument words left over. -/
def decodeAreq (op : BitVec 3) (args : List Nat) : Except DecodeError (Instr × List Nat) :=
  match op.toNat, args with
  | 1, size :: fill :: rest =>
    match decodeZero fill with
    | some z => .ok (.areqAlloc size z, rest)
    | none => .error .badArguments
  | 2, handle :: size :: fill :: rest =>
    match decodeZero fill with
    | some z => .ok (.areqGrow handle size z, rest)
    | none => .error .badArguments
  | 3, handle :: rest => .ok (.areqRelease handle, rest)
  | 4, rest => .ok (.areqAllocTable, rest)
  | 1, _ => .error .badArguments
  | 2, _ => .error .badArguments
  | 3, _ => .error .badArguments
  | _, _ => .error .reservedOp

/-- A result kind (R94); every 2-bit value is one (R114 (b)). -/
def decodeKind (code : BitVec 2) (ptr len cap : Nat) : Instr :=
  match code.toNat with
  | 0 => .kindOk ptr len cap
  | 1 => .kindOutOfMemory ptr len cap
  | 2 => .kindInitializationFailed ptr len cap
  | _ => .kindInternal ptr len cap

/-- The entry of a table whose code the bits begin with: the first, in table order (R113; at most one
when the table is well formed, R106 (b)). -/
def findCode (table : List CodeEntry) (bits : List Bool) : Option CodeEntry :=
  table.find? fun e => e.bits.isPrefixOf bits

/-- The code at the start of a bit string, and the bits left over. -/
def decodeCode (table : List CodeEntry) (bits : List Bool) : Except DecodeError (Instr × List Bool) :=
  match findCode table bits with
  | none => .error .noCode
  | some e =>
    match codeInstr e.symbol.toNat with
    | none => .error .noCode
    | some i => .ok (i, bits.drop e.length.toNat)

/-- The instruction of exactly the words or bits given. -/
def exactly {α : Type} (r : Except DecodeError (Instr × List α)) : Except DecodeError Instr :=
  match r with
  | .error e => .error e
  | .ok (i, []) => .ok i
  | .ok (_, _ :: _) => .error .trailing

/-- The decoder: total, and it rejects by name. Codes are those of `ROM_H2`, the contents the opcode table lists. -/
def decode : EncWord → Except DecodeError Instr
  | .cmd w => decodeCmd w
  | .areq op args => exactly (decodeAreq op args)
  | .kind code ptr len cap => .ok (decodeKind code ptr len cap)
  | .code bits => exactly (decodeCode romH2 bits)

/-- The `zero` argument as a word. -/
def encodeZero (z : Bool) : Nat := if z then 1 else 0

/-- The words of an instruction (R91, R94, R97, R108); none for a row that has no encoding (`micro`). -/
def encode (i : Instr) : Option EncWord :=
  match i with
  | .prewarm => some (.cmd 1)
  | .encode => some (.cmd 2)
  | .decode => some (.cmd 3)
  | .areqAlloc size zero => some (.areq 1 [size, encodeZero zero])
  | .areqGrow handle size zero => some (.areq 2 [handle, size, encodeZero zero])
  | .areqRelease handle => some (.areq 3 [handle])
  | .areqAllocTable => some (.areq 4 [])
  | .kindOk ptr len cap => some (.kind 0 ptr len cap)
  | .kindOutOfMemory ptr len cap => some (.kind 1 ptr len cap)
  | .kindInitializationFailed ptr len cap => some (.kind 2 ptr len cap)
  | .kindInternal ptr len cap => some (.kind 3 ptr len cap)
  | _ => i.symbol?.map fun s => .code ((romH2[s]?.map CodeEntry.bits).getD [])

/-- The space an encoded instruction is in. -/
def EncWord.format : EncWord → Format
  | .cmd _ => .cmd
  | .areq _ _ => .areq
  | .kind _ _ _ _ => .resKind
  | .code _ => .huffcode

/-- The code that a row of the table gives `nbits` bits with value `w`: its length is `nbits`, or `nbits` is its length in whole bytes. -/
def rowCode (nbits w : Nat) : Option CodeEntry :=
  romH2.find? fun e =>
    e.code.toNat == w && (e.length.toNat == nbits || (e.length.toNat + 7) / 8 * 8 == nbits)

/-- The instruction the decoder reads from the bits of a row of spec/opcode_table.json. `CMD` rows have 64 bits,
a request op 3 bits, a result kind 2 bits, a code its length. Rounded to whole bytes a request, a kind and a
short code may be the same 8 bits: then 1 to 4 is the request and 0 the kind `OK` (log entry 12). Argument
words are zeros. -/
def decodeTableWord (nbits w : Nat) : Option Instr :=
  if nbits = 64 then (decode (.cmd w)).toOption
  else if nbits = 2 || (nbits = 8 && w = 0) then (decode (.kind (BitVec.ofNat 2 w) 0 0 0)).toOption
  else if nbits = 3 || (nbits = 8 && w ≤ 4) then
    (decodeAreq (BitVec.ofNat 3 w) [0, 0, 0]).toOption.map Prod.fst
  else (rowCode nbits w).bind fun e => (decode (.code e.bits)).toOption

end Sys2Proof
end

