-- ==== Sys2Proof/Machine/State.lean ====
section
/-! DEFINITION. The state of HUFFCORE and of its surroundings (R21), and the state after reset (R55). -/

namespace Sys2Proof.Machine

/-- A live memory region (R60): its handle, its capacity, and the bytes somebody has written. Offset `i` of the
region reads as the listed byte, and, where none is listed, as the free value `Config.freeByte seed i`
(R69, U6; log entry 5). `granted` says that `ALLOCATOR` granted it (R304 needs it), `false` that `HOST` provided it. -/
structure Region where
  handle : Nat
  cap : Nat
  granted : Bool
  seed : Nat
  cells : List Host.Cell
  deriving DecidableEq, Repr

/-- The region space (R33 (2), R61): the live regions by handle, in rising order of handle. -/
abbrev Memory := List Region

/-- The sequencing states (R37). -/
inductive Phase where
  | idle
  | build
  | encAlloc
  | encFetch
  | encPack
  | encPad
  | decInit
  | decStart
  | scanning
  | emit
  | term
  deriving DecidableEq, Repr

/-- A working register: what it holds, and whether the command in progress has written it (R25, U11). -/
structure WReg (α : Type) where
  value : α
  written : Bool
  deriving DecidableEq, Repr

/-- The fourteen working registers (R25 to R28). -/
structure Work where
  symIdx : WReg Nat
  curCode : WReg (BitVec 32)
  curLen : WReg (BitVec 6)
  bitsSet : WReg Nat
  bitsLeft : WReg (BitVec 6)
  bitsDone : WReg Nat
  bitsTotal : WReg Nat
  scanK : WReg (BitVec 9)
  outPos : WReg Nat
  obPtr : WReg Nat
  obCap : WReg Nat
  obLen : WReg Nat
  obInc : WReg Nat
  obZero : WReg (BitVec 1)
  deriving DecidableEq, Repr

/-- The names of the working registers. -/
inductive WName where
  | symIdx
  | curCode
  | curLen
  | bitsSet
  | bitsLeft
  | bitsDone
  | bitsTotal
  | scanK
  | outPos
  | obPtr
  | obCap
  | obLen
  | obInc
  | obZero
  deriving DecidableEq, Repr

/-- The outcome of a micro-operation that may fail (R140, R165, R168). -/
inductive Ob where
  | done
  | fail
  deriving DecidableEq, Repr

/-- What a scan of `DT` finds (R214), with the index it stopped at. -/
inductive Scan where
  | found (k : Nat)
  | eos (k : Nat)
  | short (k : Nat)
  | noMatch (k : Nat)
  | internal (k : Nat)
  deriving DecidableEq, Repr

/-- The value a micro-operation run by itself gives back to its invoker; the model's own latch (log entry 20). -/
inductive Ret where
  | none
  | ob (r : Ob)
  | entry (e : CodeEntry)
  | scan (r : Scan)
  | window (v : Nat)
  | answer (h : Option Nat)
  | table (granted : Bool)
  deriving DecidableEq, Repr

/-- A request on the allocator interface (R97). -/
inductive Request where
  | alloc (size : Nat) (zero : Bool)
  | grow (handle size : Nat) (zero : Bool)
  | release (handle : Nat)
  | allocTable
  deriving DecidableEq, Repr

/-- One action of one agent (R20; log entry 8). -/
inductive Action where
  /-- HOST writes register `reg` (`W r<n> <- v`). -/
  | write (reg : Nat) (v : Nat)
  /-- HOST reads register `reg` (`R r<n>`) into `hostData`. -/
  | read (reg : Nat)
  /-- HOST reads `STATUS` until `BUSY` = 0 (R262); CORE moves meanwhile. -/
  | poll
  /-- HOST writes `CMD` and waits for the end: the command as one transition (R6 (a)). -/
  | call (w : Nat)
  /-- HOST presents a request to ALLOCATOR (R116 (c), R307). -/
  | request (op : BitVec 3) (args : List Nat)
  /-- HOST provides a region of its own (R60). -/
  | provide (handle cap : Nat)
  /-- HOST writes one byte of a region. -/
  | poke (handle : Nat) (off : Nat) (b : Byte)
  /-- HOST reads one byte of a region into `hostData`. -/
  | peek (handle : Nat) (off : Nat)
  /-- Reset (R290). -/
  | reset
  /-- CORE runs the micro-operation `PHASE` names (R6 (b), R38). -/
  | core
  /-- CORE runs the code at the current bit offset: one pass of the decoder's loop (R210). -/
  | code
  /-- CORE runs one micro-operation by itself (as the vectors 2.1 to 2.5 of 95_test_vectors.md do; log entry 27). -/
  | micro (i : Instr)
  /-- CORE ends the command in progress with a result kind (R256, R257; log entry 27). -/
  | finish (code : BitVec 2) (ptr len cap : Nat)
  deriving DecidableEq, Repr

/-- The machine stops: no rule of the spec gives the access or the register a value. All are SAFE. -/
inductive Fault where
  /-- A byte access outside R62: the region is not live, or the offset is not below its capacity. Raised by
  `outRead`, `outWrite`, `inRead`. Safe. -/
  | access (handle : Nat) (off : Nat)
  /-- A read of a working register the command in progress has not written (R25, U11). Raised by `needs`. Safe. -/
  | unwrittenRegister (r : WName)
  /-- A read of `DT` while `DT_VALID` = 0 (R23, U5). Raised by `dtAt`, `decScan`, `codePass`. Safe. -/
  | dtAbsent
  /-- An index that names no table entry (R130). Raised by `romAt`, `dtAt`, `codePass`. Safe. -/
  | tableIndex (k : Nat)
  /-- A size that does not fit `SIZE_W` bits (R9 `zext`; R96 says no admitted command has one). Raised by `fit`. Safe. -/
  | sizeOverflow
  /-- CORE presents `GROW` or `RELEASE` for a dead region, or `GROW` to no more than the capacity (R162, R163).
  Raised by `reqGrow`, `reqRelease`. Safe. -/
  | requestContract (handle : Nat)
  /-- A symbol above 255 reaches the byte write of R218. Raised by `decEmit`. Safe. -/
  | notAByte (symbol : Nat)
  /-- The command does not end: an entry of length 0 matches for ever (R232, U7). Raised by `untilIdle`. Safe. -/
  | noProgress
  /-- `BUSY` = 1 in PHASE `IDLE`, a pair R37 excludes. Raised by `coreStep` and `stepCore`. Safe. -/
  | idleWhileBusy
  deriving DecidableEq, Repr

/-- The run is refused: the spec gives no behaviour (R12, R259, D8). All are SAFE. -/
inductive Refusal where
  /-- An instruction without a meaning yet. Raised by `exec`. Safe. -/
  | notModelled (mnemonic : String)
  /-- A word that is no instruction (R91, R97, R114, U13). Raised by `hostWrite`, `runAction`. Safe. -/
  | reserved (e : DecodeError)
  /-- A command while `BUSY` = 1 (R300). Raised by `admission`. Safe. -/
  | commandWhileBusy
  /-- An operand outside the range condition (R96, R309). Raised by `admission`. Safe. -/
  | outOfRange
  /-- The input region is not live or too small (R302). Raised by `admission`. Safe. -/
  | inputRegion
  /-- The supplied output region is not live, not from ALLOCATOR, or not of capacity `OUT_CAP` (R304). Raised by `admission`. Safe. -/
  | outputRegion
  /-- Input and output region are the same (R305). Raised by `admission`. Safe. -/
  | sameRegion
  /-- An operand write while `BUSY` = 1 (R301). Raised by `hostWrite`. Safe. -/
  | operandWhileBusy
  /-- A write to a read-only register (R50, U13). Raised by `hostWrite`. Safe. -/
  | readOnlyRegister (reg : Nat)
  /-- A register number above 9 (R50, U13). Raised by `hostWrite`, `hostRead`. Safe. -/
  | noSuchRegister (reg : Nat)
  /-- HOST touches a region of the command in progress (R75, R302). Raised by `hostPoke`, `hostPeek`. Safe. -/
  | regionInUse (handle : Nat)
  /-- HOST presents a request to ALLOCATOR while `BUSY` = 1 (R75). Raised by `hostRequest`. Safe. -/
  | requestWhileBusy
  /-- An operand or register word of more than `SIZE_W` bits (R8, R90). Raised by `hostWrite`, `hostProvide`, and the
  meanings that have operand words. Safe. -/
  | tooWide
  /-- HOST touches a dead region or an offset outside its capacity, or asks to grow or release one (U18, R162, R163).
  Raised by `hostPoke`, `hostPeek`, `execAreqGrow`, `execAreqRelease`. Safe. -/
  | deadRegion (handle : Nat)
  /-- `GROW` to a size not above the capacity (R162). Raised by `execAreqGrow`. Safe. -/
  | growSize
  /-- HOST provides a region under `NULL` or under a live handle (R60, R61). Raised by `hostProvide`. Safe. -/
  | handleTaken (handle : Nat)
  /-- Reset while `BUSY` = 1 (R56, R292). Raised by `hostReset`. Safe. -/
  | resetWhileBusy
  /-- CORE is asked to move while no command is in progress, or to decode a code outside `SCANNING` (R20, R37). Raised by `runAction`. Safe. -/
  | noCommand
  /-- The operands are outside the ranges of the row's rule. Raised by `runAction`, `execDecWindow`. Safe. -/
  | illFormed
  deriving DecidableEq, Repr

/-- The state: HUFFCORE's own (R21), the live regions (R60), then the model's own fields (log entries 4, 6, 8, 20). -/
structure State where
  /-- `SIZE_W`, an argument of the model (R8, D6): the width of every size, count, bit counter and handle. No step
  writes it. -/
  sizeW : Nat
  /-- `ROM`, indexed by symbol (R22). -/
  rom : List CodeEntry
  /-- `DT` (R23); read only while `dtValid`. -/
  dt : List CodeEntry
  /-- `DT_VALID` (R24). -/
  dtValid : Bool
  /-- `BUSY` (R30). -/
  busy : Bool
  /-- `PHASE` (R37). -/
  phase : Phase
  /-- `IN_PTR`, register 2 (R42). -/
  inPtr : Nat
  /-- `IN_LEN`, register 3 (R43). -/
  inLen : Nat
  /-- `OUT_PTR`, register 4 (R44). -/
  outPtr : Nat
  /-- `OUT_CAP`, register 5 (R45). -/
  outCap : Nat
  /-- `RES_KIND[1:0]`, register 6 (R46). -/
  resKind : BitVec 2
  /-- `RES_PTR`, register 7 (R47). -/
  resPtr : Nat
  /-- `RES_LEN`, register 8 (R48). -/
  resLen : Nat
  /-- `RES_CAP`, register 9 (R49). -/
  resCap : Nat
  /-- The working registers (R25 to R28). -/
  work : Work
  /-- The live regions (R60). -/
  mem : Memory
  /-- The answers ALLOCATOR will give, first one next; past their end the answers are free (R164, U14). -/
  answers : List Answer
  /-- The requests presented so far, newest first (R97). -/
  requests : List Request
  /-- What the last micro-operation run by itself gave back. -/
  ret : Ret
  /-- What HOST read last. -/
  hostData : Nat
  /-- The actions to come, in the interleaving of the agents (R20). -/
  agenda : List Action
  /-- The number of the next free value. -/
  freeNext : Nat
  deriving DecidableEq, Repr

/-- A register of content 0 that no command has written: the reset content the model names (log entry 3). -/
def WReg.atReset {α : Type} (v : α) : WReg α := { value := v, written := false }

/-- The working registers after reset: unspecified in R55, 0 and not written here (DESIGN CHOICE, unsafe, log entry 3). -/
def Work.atReset : Work where
  symIdx := .atReset 0
  curCode := .atReset 0
  curLen := .atReset 0
  bitsSet := .atReset 0
  bitsLeft := .atReset 0
  bitsDone := .atReset 0
  bitsTotal := .atReset 0
  scanK := .atReset 0
  outPos := .atReset 0
  obPtr := .atReset 0
  obCap := .atReset 0
  obLen := .atReset 0
  obInc := .atReset 0
  obZero := .atReset 0

/-- The state after reset (R55, R290). `sizeW` is the default of R8 (log entry 1). `rom` is the default instance of `CODE_ROM` (log entry 2); `dt` is
unspecified in R55 and 257 zero words here (log entry 3). -/
def State.reset : State where
  sizeW := 64
  rom := romH2
  dt := List.replicate nsym { code := 0, length := 0, symbol := 0 }
  dtValid := false
  busy := false
  phase := .idle
  inPtr := 0
  inLen := 0
  outPtr := 0
  outCap := 0
  resKind := 0
  resPtr := 0
  resLen := 0
  resCap := 0
  work := Work.atReset
  mem := []
  answers := []
  requests := []
  ret := .none
  hostData := 0
  agenda := []
  freeNext := 0

end Sys2Proof.Machine
end

