-- ==== Sys2Proof/Machine/Flags.lean ====
section
/-! DEFINITION. The flags: `BUSY`, `DT_VALID`, `OB_ZERO` (R31), as registers show them. There are no condition codes. -/

namespace Sys2Proof.Machine

open Sys2Proof

/-- A flag as bit 0 of a register. -/
def flagWord (b : Bool) : Nat := if b then 1 else 0

/-- What `STATUS` reads as: bit 0 `BUSY`, bit 1 `DT_VALID`, the rest 0 (R41). -/
def statusWord (s : State) : Nat := (flagWord s.dtValid <<< 1) ||| flagWord s.busy

/-- `OB_ZERO` as a flag (R28). -/
def obZeroFlag (s : State) : Bool := s.work.obZero.value == 1

/-- A flag as the 1-bit register `OB_ZERO` holds it (R28). -/
def flagBit (b : Bool) : BitVec 1 := if b then 1 else 0

end Sys2Proof.Machine
end

