-- ==== Sys2Proof/Machine/Operands.lean ====
section
/-! DEFINITION. Operand forms: sizes, stream bits, the decoder's window and the encoder's chunk (R10, R182, R185, R215, R216). -/

namespace Sys2Proof.Machine

open Sys2Proof

/-- The encoder's initial capacity (R182). -/
def cap0 (n : Nat) : Nat := (((5 * n + 3) / 4 + 3) / 4) * 4

/-- Stream bit `i` of the bytes `B`: bit `7 - i mod 8` of byte `i div 8` (R10, R64). -/
def streamBit (B : Nat → Byte) (i : Nat) : Bool := (B (i / 8)).getLsbD (7 - i % 8)

/-- `StreamBits(B, i, n)`: the number whose most significant bit is stream bit `i` (R10). -/
def streamBits (B : Nat → Byte) (i : Nat) : Nat → Nat
  | 0 => 0
  | n + 1 => 2 * streamBits B i n + (streamBit B (i + n)).toNat

/-- The number the `n` bytes from offset `b` form, the lowest offset most significant (R64). -/
def bigEndian (B : Nat → Byte) (b : Nat) : Nat → Nat
  | 0 => 0
  | n + 1 => 256 * bigEndian B b n + (B (b + n)).toNat

/-- The window width for a code of `len` bits (R216). -/
def windowWidth (len : Nat) : Nat := if len ≤ 8 then 8 else if len ≤ 16 then 16 else 32

/-- `DEC.WINDOW` at bit offset `p` (R216): the two neighbouring windows combined, shifted, and cut to `len` bits. -/
def window (B : Nat → Byte) (p len : Nat) : Nat :=
  let w := windowWidth len
  let nb := w / 8
  let cur := bigEndian B (p / 8) nb
  let nxt := bigEndian B (p / 8 + nb) nb
  (((cur <<< (p % 8)) % 2 ^ w) ||| (nxt >>> (w - p % 8))) >>> (w - len)

/-- Unused bit positions of the byte that bit offset `pos` falls in, 1 to 8 (R185 `free`). -/
def packFree (pos : Nat) : Nat := 8 - pos % 8

/-- How many bits one pass writes (R185 `n`). -/
def packCount (pos left : Nat) : Nat := min (packFree pos) left

/-- The bits one pass writes, in their place in the byte (R185 `chunk << (free - n)`). -/
def packByte (code pos left : Nat) : Byte :=
  let n := packCount pos left
  BitVec.ofNat 8 (((code >>> (left - n)) % 2 ^ n) <<< (packFree pos - n))

/-- The padding of a last byte that holds `r` code bits: its low `8 - r` bits are 1 (R186). -/
def padByte (r : Nat) : Byte := BitVec.ofNat 8 (2 ^ (8 - r) - 1)

end Sys2Proof.Machine
end

