-- ==== Sys2Proof/Machine/Ops.lean ====
section
/-! DEFINITION. The named operations over registers, regions, the allocator interface, and the end of a command. -/

namespace Sys2Proof.Machine

open Sys2Proof

/-! ### Working registers -/

/-- A register just written. -/
def WReg.wr {α : Type} (v : α) : WReg α := { value := v, written := true }

/-- A register of unspecified content: free value number `k`, not written (R25, U11, U15). -/
def WReg.unspecified (n k : Nat) : WReg (BitVec n) := { value := Config.freeBits n k, written := false }

/-- The same for a register of `w` = `SIZE_W` bits. -/
def WReg.unspecifiedWord (w k : Nat) : WReg Nat := { value := (Config.freeBits w k).toNat, written := false }

/-- Whether the command in progress has written a register (R25). -/
def Work.isWritten (w : Work) : WName → Bool
  | .symIdx => w.symIdx.written
  | .curCode => w.curCode.written
  | .curLen => w.curLen.written
  | .bitsSet => w.bitsSet.written
  | .bitsLeft => w.bitsLeft.written
  | .bitsDone => w.bitsDone.written
  | .bitsTotal => w.bitsTotal.written
  | .scanK => w.scanK.written
  | .outPos => w.outPos.written
  | .obPtr => w.obPtr.written
  | .obCap => w.obCap.written
  | .obLen => w.obLen.written
  | .obInc => w.obInc.written
  | .obZero => w.obZero.written

/-- All fourteen working registers unspecified, from free value number `k` on (R25, R256); `w` is `SIZE_W`. -/
def Work.unspecified (w k : Nat) : Work where
  symIdx := .unspecifiedWord w k
  curCode := .unspecified 32 (k + 1)
  curLen := .unspecified 6 (k + 2)
  bitsSet := .unspecifiedWord w (k + 3)
  bitsLeft := .unspecified 6 (k + 4)
  bitsDone := .unspecifiedWord w (k + 5)
  bitsTotal := .unspecifiedWord w (k + 6)
  scanK := .unspecified 9 (k + 7)
  outPos := .unspecifiedWord w (k + 8)
  obPtr := .unspecifiedWord w (k + 9)
  obCap := .unspecifiedWord w (k + 10)
  obLen := .unspecifiedWord w (k + 11)
  obInc := .unspecifiedWord w (k + 12)
  obZero := .unspecified 1 (k + 13)

/-- The registers read here must have been written by the command in progress (R25). -/
def needs (s : State) (rs : List WName) : Except Fault Unit :=
  match rs.find? fun r => !s.work.isWritten r with
  | some r => .error (.unwrittenRegister r)
  | none => .ok ()

/-- A size as the content of a register of `w` bits; one that does not fit has no meaning (R9 `zext`, R96; log entry 19). -/
def fit (w n : Nat) : Except Fault Nat :=
  if n < 2 ^ w then .ok n else .error .sizeOverflow

/-- Whether words fit `SIZE_W` bits: no other words exist on this machine (R8, R90). -/
def wordsFit (s : State) (vs : List Nat) : Bool := vs.all fun v => decide (v < 2 ^ s.sizeW)

/-! ### State updates -/

def State.withMem (s : State) (m : Memory) : State := { s with mem := m }

def State.withWork (s : State) (w : Work) : State := { s with work := w }

def State.withPhase (s : State) (p : Phase) : State := { s with phase := p }

def State.withRet (s : State) (r : Ret) : State := { s with ret := r }

/-- A request is presented (R160). -/
def State.withRequest (s : State) (r : Request) : State := { s with requests := r :: s.requests }

/-- `n` more free values are used up. -/
def State.useFree (s : State) (n : Nat) : State := { s with freeNext := s.freeNext + n }

/-- HOST has read a value. -/
def State.withHostData (s : State) (v : Nat) : State := { s with hostData := v }

/-- Every working register becomes unspecified (R25, R256). -/
def State.forgetWork (s : State) : State :=
  (s.withWork (Work.unspecified s.sizeW s.freeNext)).useFree 14

/-! ### Regions (R60 to R62) -/

/-- The listed byte at an offset. -/
def cellGet : List Host.Cell → Nat → Option Byte
  | [], _ => none
  | (a, b) :: cs, i => if a = i then some b else cellGet cs i

/-- The cells with byte `b` at offset `i`, in rising order. -/
def cellSet : List Host.Cell → Nat → Byte → List Host.Cell
  | [], i, b => [(i, b)]
  | (a, x) :: cs, i, b =>
    if i < a then (i, b) :: (a, x) :: cs
    else if i = a then (i, b) :: cs
    else (a, x) :: cellSet cs i b

/-- Zero bytes at the offsets from `a` to below `b`. -/
def zeroCells (a b : Nat) : List Host.Cell := (List.range' a (b - a)).map fun i => (i, 0)

/-- The live region of a handle. -/
def regionGet : Memory → Nat → Option Region
  | [], _ => none
  | r :: rs, h => if r.handle = h then some r else regionGet rs h

/-- The regions with `r` under its handle, in rising order of handle. -/
def regionPut : Memory → Region → Memory
  | [], r => [r]
  | x :: xs, r =>
    if r.handle < x.handle then r :: x :: xs
    else if r.handle = x.handle then r :: xs
    else x :: regionPut xs r

/-- The regions without that of a handle. -/
def regionDrop (m : Memory) (h : Nat) : Memory := m.filter fun r => r.handle != h

/-- Whether a handle names a live region (R60). -/
def isLive (m : Memory) (h : Nat) : Bool := (regionGet m h).isSome

/-- The byte at an offset below the capacity: the listed one, else the free value (R69, U6). -/
def Region.byteAt (r : Region) (i : Nat) : Byte := (cellGet r.cells i).getD (Config.freeByte r.seed i)

/-- `MemRead(h + i, 1)`; none outside the condition of R62. -/
def readByte (m : Memory) (h : Nat) (i : Nat) : Option Byte :=
  match regionGet m h with
  | none => none
  | some r => if i < r.cap then some (r.byteAt i) else none

/-- `MemWrite(h + i, 1, b)`; none outside the condition of R62. -/
def writeByte (m : Memory) (h : Nat) (i : Nat) (b : Byte) : Option Memory :=
  match regionGet m h with
  | none => none
  | some r => if i < r.cap then some (regionPut m { r with cells := cellSet r.cells i b }) else none

/-- A region is in canonical form: a handle that is not `NULL`, offsets strictly rising and below the capacity. An offset that is not listed has no byte of its own, so none is listed in vain. -/
abbrev Region.wf (r : Region) : Prop :=
  r.handle ≠ nullHandle ∧ r.cells.Pairwise (fun a b => a.1 < b.1) ∧ ∀ c ∈ r.cells, c.1 < r.cap

/-- The region space is in canonical form: handles strictly rising, every region in canonical form (R60: live regions do not overlap). -/
abbrev Memory.wf (m : Memory) : Prop :=
  m.Pairwise (fun a b => a.handle < b.handle) ∧ ∀ r ∈ m, Region.wf r

/-- `IN[i]` (R11). -/
def inRead (s : State) (i : Nat) : Except Fault Byte :=
  match readByte s.mem s.inPtr i with
  | some b => .ok b
  | none => .error (.access s.inPtr i)

/-- `OUT[i]` (R11). -/
def outRead (s : State) (i : Nat) : Except Fault Byte :=
  match readByte s.mem s.work.obPtr.value i with
  | some b => .ok b
  | none => .error (.access s.work.obPtr.value i)

/-- `OUT[i] <- b` (R11). -/
def outWrite (s : State) (i : Nat) (b : Byte) : Except Fault State :=
  match writeByte s.mem s.work.obPtr.value i b with
  | some m => .ok (s.withMem m)
  | none => .error (.access s.work.obPtr.value i)

/-- `INZ(i)` (R216): the input byte, and 0x00 without a read from `IN_LEN` on (R67). -/
def inZero (s : State) (i : Nat) : Byte :=
  if i < s.inLen then
    match regionGet s.mem s.inPtr with
    | some r => r.byteAt i
    | none => 0
  else 0

/-- Every input offset below `IN_LEN` is readable (R62, R302). -/
def inputReadable (s : State) : Bool :=
  s.inLen == 0 ||
    match regionGet s.mem s.inPtr with
    | some r => decide (s.inLen ≤ r.cap)
    | none => false

/-! ### The allocator interface (R160 to R164) -/

/-- The next answer of ALLOCATOR: the next of the list, else a free one (R164, U14). -/
def takeAnswer (s : State) : Answer × State :=
  match s.answers with
  | a :: rest => (a, { s with answers := rest })
  | [] => (Config.freeAnswer s.freeNext, s.useFree 1)

/-- Whether `ALLOCATOR` may grant a handle: `w` bits, not `NULL`, and no live region's (R61, R161, R162). -/
def handleFree (w : Nat) (m : Memory) (h : Nat) : Bool := decide (h < 2 ^ w) && h != nullHandle && !isLive m h

/-- Some handle that may be granted; none when there is none. -/
def freshHandle (w : Nat) (m : Memory) : Option Nat :=
  ((List.range (m.length + 1)).map (· + 1)).find? (handleFree w m)

/-- The handle a grant of `ALLOC` gives (R161): the one asked for if it is legal, else a fresh one. -/
def allocHandle (w : Nat) (m : Memory) (h : Nat) : Option Nat :=
  if handleFree w m h then some h else freshHandle w m

/-- The handle a grant of `GROW` gives (R162): the one asked for if it is legal, else the old one. -/
def growHandle (w : Nat) (m : Memory) (old h : Nat) : Nat :=
  if handleFree w m h then h else old

/-- A granted region (R161): all bytes 0x00 with `zero`, else none listed. -/
def newRegion (h size : Nat) (zero : Bool) (seed : Nat) : Region where
  handle := h
  cap := size
  granted := true
  seed := seed
  cells := if zero then zeroCells 0 size else []

/-- The region a growth leaves (R162): old bytes kept, new ones 0x00 with `zero`, else not listed. It counts as
obtained from `ALLOCATOR` (R304) whoever provided the region before: a DESIGN CHOICE, log entry 32. -/
def grownRegion (r : Region) (h size : Nat) (zero : Bool) : Region :=
  { r with handle := h, cap := size, granted := true,
           cells := if zero then r.cells ++ zeroCells r.cap size else r.cells }

/-- `ALLOC(size, zero)` (R161): the handle granted, or none on `DENY`. -/
def reqAlloc (size : Nat) (zero : Bool) (s : State) : Option Nat × State :=
  let s1 := (takeAnswer (s.withRequest (.alloc size zero))).2
  match (takeAnswer (s.withRequest (.alloc size zero))).1 with
  | .deny => (none, s1)
  | .grant h =>
    match allocHandle s.sizeW s.mem h with
    | none => (none, s1)
    | some g => (some g, (s1.withMem (regionPut s.mem (newRegion g size zero s1.freeNext))).useFree 1)

/-- Whether `GROW(h, size)` may be issued: `h` live, of smaller capacity (R162). -/
def growable (m : Memory) (h size : Nat) : Bool :=
  match regionGet m h with
  | some r => decide (r.cap < size)
  | none => false

/-- `GROW(h, size, zero)` (R162), where `growable`: the handle granted, or none on `DENY`. -/
def reqGrow (h size : Nat) (zero : Bool) (s : State) : Option Nat × State :=
  let s1 := (takeAnswer (s.withRequest (.grow h size zero))).2
  match (takeAnswer (s.withRequest (.grow h size zero))).1, regionGet s.mem h with
  | .grant g, some r =>
    let g' := growHandle s.sizeW s.mem h g
    (some g', s1.withMem (regionPut (regionDrop s.mem h) (grownRegion r g' size zero)))
  | _, _ => (none, s1)

/-- `RELEASE(h)` (R163). -/
def reqRelease (h : Nat) (s : State) : State :=
  (s.withRequest (.release h)).withMem (regionDrop s.mem h)

/-- `ALLOC_TABLE` (R97, R140): whether granted. -/
def reqTable (s : State) : Bool × State :=
  let r := takeAnswer (s.withRequest .allocTable)
  (decide (r.1 ≠ .deny), r.2)

/-! ### The two ends of a command (R256, R257) and its acceptance (R40) -/

/-- The result kinds (R94). -/
inductive Kind where
  | ok
  | outOfMemory
  | initializationFailed
  | internal
  deriving DecidableEq, Repr

/-- The code of a result kind in `RES_KIND` (R94). -/
def kindCode : Kind → BitVec 2
  | .ok => 0
  | .outOfMemory => 1
  | .initializationFailed => 2
  | .internal => 3

/-- `raise K(ptr, len, cap)` and, with kind `OK`, `complete` (R256, R257): the result registers are written, PHASE
is `IDLE`, `BUSY` is 0, and the working registers are unspecified. There is no handler and nothing is saved, and
no return operation exists (R264). -/
def endCommand (k : Kind) (ptr len cap : Nat) (s : State) : State :=
  { s.forgetWork with
    resKind := kindCode k, resPtr := ptr, resLen := len, resCap := cap, phase := .idle, busy := false, ret := .none }

/-- The acceptance of a command that starts in PHASE `p` (R40): `BUSY` is 1, and no working register has been
written by the command yet (R25). -/
def beginCommand (p : Phase) (s : State) : State :=
  { s.forgetWork with busy := true, phase := p, ret := .none }

/-- The outcome of an operation that goes on or faults. -/
def ofRun (r : Except Fault State) : Host.Outcome State Fault Refusal :=
  match r with
  | .ok s => .next s
  | .error f => .fault f

end Sys2Proof.Machine
end

