-- ==== Sys2Proof/Machine/Allocator.lean ====
section
/-! DEFINITION. The requests on the allocator interface (R97): AREQ.ALLOC, AREQ.GROW, AREQ.RELEASE, AREQ.ALLOC_TABLE. -/

namespace Sys2Proof.Machine

open Sys2Proof

/-- AREQ.ALLOC (R161). -/
def execAreqAlloc (size : Nat) (zero : Bool) (s : State) : Host.Outcome State Fault Refusal :=
  if wordsFit s [size] then .next ((reqAlloc size zero s).2.withRet (.answer (reqAlloc size zero s).1))
  else .refused .tooWide

/-- AREQ.GROW (R162): issued only with `handle` live and `size` above its capacity. A region HOST provided itself may
be grown like a granted one: R162 asks only that it be live (DESIGN CHOICE, log entry 32). -/
def execAreqGrow (handle size : Nat) (zero : Bool) (s : State) : Host.Outcome State Fault Refusal :=
  if isLive s.mem handle then
    if growable s.mem handle size then
      if wordsFit s [size] then
        .next ((reqGrow handle size zero s).2.withRet (.answer (reqGrow handle size zero s).1))
      else .refused .tooWide
    else .refused .growSize
  else .refused (.deadRegion handle)

/-- AREQ.RELEASE (R163): issued only with `handle` live, whoever provided the region (log entry 32). -/
def execAreqRelease (handle : Nat) (s : State) : Host.Outcome State Fault Refusal :=
  if isLive s.mem handle then .next ((reqRelease handle s).withRet .none)
  else .refused (.deadRegion handle)

/-- AREQ.ALLOC_TABLE (R97, R140). -/
def execAreqAllocTable (s : State) : Host.Outcome State Fault Refusal :=
  .next ((reqTable s).2.withRet (.table (reqTable s).1))

end Sys2Proof.Machine
end

