-- ==== Sys2Proof/Machine/OutputBuffer.lean ====
section
/-! DEFINITION. The output buffer controller: OB.ALLOC, OB.ADOPT, OB.ENSURE, OB.GROW, OB.RELEASE (42_output_buffer.md). -/

namespace Sys2Proof.Machine

open Sys2Proof

/-- The controller's registers for a region just obtained (R165, R166). -/
def obRegisters (h cap inc : Nat) (zero : Bool) (w : Work) : Work :=
  { w with obPtr := .wr h, obCap := .wr cap, obLen := .wr 0, obInc := .wr inc, obZero := .wr (flagBit zero) }

/-- `OB_PTR`, `OB_CAP`, `OB_LEN` after a failed `OB.ALLOC`: unspecified, from free value number `k` on (R165, U15; log entry 24); `n` is `SIZE_W`. -/
def obForget (n k : Nat) (w : Work) : Work :=
  { w with obPtr := .unspecifiedWord n k, obCap := .unspecifiedWord n (k + 1), obLen := .unspecifiedWord n (k + 2) }

/-- `OB.ALLOC` (R165). -/
def obAlloc (size inc : Nat) (zero : Bool) (s : State) : Ob × State :=
  let s1 := (reqAlloc size zero s).2
  match (reqAlloc size zero s).1 with
  | none => (.fail, (s1.withWork (obForget s1.sizeW s1.freeNext s1.work)).useFree 3)
  | some h => (.done, s1.withWork (obRegisters h size inc zero s1.work))

/-- `OB.ADOPT` (R166): no request, and the region's bytes are not touched. -/
def obAdopt (h cap inc : Nat) (zero : Bool) (s : State) : State :=
  s.withWork (obRegisters h cap inc zero s.work)

/-- `OB.GROW` (R168). -/
def obGrow (s : State) : Except Fault (Ob × State) := do
  needs s [.obPtr, .obCap, .obInc, .obZero]
  let size ← fit s.sizeW (s.work.obCap.value + s.work.obInc.value)
  if growable s.mem s.work.obPtr.value size then
    let s1 := (reqGrow s.work.obPtr.value size (obZeroFlag s) s).2
    match (reqGrow s.work.obPtr.value size (obZeroFlag s) s).1 with
    | none => .ok (.fail, s1)
    | some h => .ok (.done, s1.withWork { s1.work with obPtr := .wr h, obCap := .wr size })
  else .error (.requestContract s.work.obPtr.value)

/-- `OB.ENSURE idx` (R167): "at or past" the capacity grows, once. -/
def obEnsure (idx : Nat) (s : State) : Except Fault (Ob × State) := do
  needs s [.obCap]
  if s.work.obCap.value ≤ idx then obGrow s else .ok (.done, s)

/-- `OB.RELEASE` (R169). -/
def obRelease (s : State) : Except Fault State := do
  needs s [.obPtr]
  if isLive s.mem s.work.obPtr.value then
    let s1 := reqRelease s.work.obPtr.value s
    .ok (s1.withWork { s1.work with obPtr := .wr nullHandle, obCap := .wr 0, obLen := .wr 0 })
  else .error (.requestContract s.work.obPtr.value)

/-- The outcome of a micro-operation that returns `DONE` or `FAIL`, with that value latched. -/
def ofOb (r : Except Fault (Ob × State)) : Host.Outcome State Fault Refusal :=
  match r with
  | .ok (r, s) => .next (s.withRet (.ob r))
  | .error f => .fault f

/-- OB.ALLOC (R165). -/
def execObAlloc (size inc : Nat) (zero : Bool) (s : State) : Host.Outcome State Fault Refusal :=
  if wordsFit s [size, inc] then .next ((obAlloc size inc zero s).2.withRet (.ob (obAlloc size inc zero s).1))
  else .refused .tooWide

/-- OB.ADOPT (R166). -/
def execObAdopt (handle cap inc : Nat) (zero : Bool) (s : State) : Host.Outcome State Fault Refusal :=
  if wordsFit s [handle, cap, inc] then .next ((obAdopt handle cap inc zero s).withRet .none)
  else .refused .tooWide

/-- OB.ENSURE (R167). -/
def execObEnsure (idx : Nat) (s : State) : Host.Outcome State Fault Refusal := ofOb (obEnsure idx s)

/-- OB.GROW (R168). -/
def execObGrow (s : State) : Host.Outcome State Fault Refusal := ofOb (obGrow s)

/-- OB.RELEASE (R169). -/
def execObRelease (s : State) : Host.Outcome State Fault Refusal :=
  match obRelease s with
  | .ok s1 => .next (s1.withRet .none)
  | .error f => .fault f

end Sys2Proof.Machine
end

