-- ==== Sys2Proof/Machine/Tables.lean ====
section
/-! DEFINITION. The table space: ROM.LOOKUP, DT.BUILD and the sort (40_rom_lookup.md, 41_decode_table.md). -/

namespace Sys2Proof.Machine

open Sys2Proof

/-- `ROM[k]` (R130). -/
def romAt (s : State) (k : Nat) : Except Fault CodeEntry :=
  match s.rom[k]? with
  | some e => .ok e
  | none => .error (.tableIndex k)

/-- `DT[k]`, defined only while `DT_VALID` = 1 (R11, R23). -/
def dtAt (s : State) (k : Nat) : Except Fault CodeEntry :=
  if s.dtValid then
    match s.dt[k]? with
    | some e => .ok e
    | none => .error (.tableIndex k)
  else .error .dtAbsent

/-- An entry put before the first entry that is not shorter. -/
def insertByLength (e : CodeEntry) : List CodeEntry → List CodeEntry
  | [] => [e]
  | x :: xs => if e.length.toNat ≤ x.length.toNat then e :: x :: xs else x :: insertByLength e xs

/-- `SortByLength` (R141): the stable sort by ascending length. -/
def sortByLength : List CodeEntry → List CodeEntry
  | [] => []
  | e :: es => insertByLength e (sortByLength es)

/-- `DT.BUILD` (R140): one request, then `DT` and `DT_VALID` in one step. A table already built is left as it is (R143; log entry 17). -/
def dtBuild (s : State) : Ob × State :=
  if s.dtValid then (.done, s)
  else if (reqTable s).1 then
    (.done, { (reqTable s).2 with dt := sortByLength s.rom, dtValid := true })
  else (.fail, (reqTable s).2)

/-- ROM.LOOKUP (R130): the entry is the value returned; no state of the engine is written. -/
def execRomLookup (sym : BitVec 9) (s : State) : Host.Outcome State Fault Refusal :=
  match romAt s sym.toNat with
  | .ok e => .next (s.withRet (.entry e))
  | .error f => .fault f

/-- DT.BUILD (R140). -/
def execDtBuild (s : State) : Host.Outcome State Fault Refusal :=
  .next ((dtBuild s).2.withRet (.ob (dtBuild s).1))

end Sys2Proof.Machine
end

