-- ==== Sys2Proof/Machine/Decoder.lean ====
section
/-! DEFINITION. The decoder's micro-operations: DEC.INIT, DEC.START, DEC.SCAN, DEC.WINDOW, DEC.EMIT, DEC.TERM, and
the pass that consumes one code (44_decoder.md). -/

namespace Sys2Proof.Machine

open Sys2Proof

/-- `DEC.INIT` (R211): build `DT` if it is absent; a failed build is `InitializationFailed`, the supplied buffer handed back. -/
def decInit (s : State) : State :=
  match (dtBuild s).1 with
  | .done => (dtBuild s).2.withPhase .decStart
  | .fail =>
    endCommand .initializationFailed s.outPtr 0 (if s.outPtr = nullHandle then 0 else s.outCap) (dtBuild s).2

/-- PHASE where the loop of R210 stands at bit offset `p` of `total`: `SCANNING` while bits remain, else `TERM`. -/
def loopPhase (p total : Nat) : Phase := if p < total then .scanning else .term

/-- The counters of `DEC.START` (R212), and the first PHASE of the loop (R210). -/
def decCounters (s : State) : Except Fault State := do
  let total ← fit s.sizeW (8 * s.inLen)
  .ok ((s.withWork { s.work with bitsDone := .wr 0, bitsTotal := .wr total, outPos := .wr 0 }).withPhase
    (loopPhase 0 total))

/-- `DEC.START` (R212): adopt the supplied region or obtain one, and set the counters. The increment 1000 must fit
`OB_INC` (R9; log entry 1). -/
def decStart (s : State) : Except Fault State := do
  let inc ← fit s.sizeW decInc
  if s.outPtr = nullHandle then
    let size ← fit s.sizeW (2 * s.inLen)
    let s1 := (obAlloc size inc false s).2
    match (obAlloc size inc false s).1 with
    | .fail => .ok (endCommand .outOfMemory nullHandle 0 0 s1)
    | .done => decCounters s1
  else decCounters (obAdopt s.outPtr s.outCap inc false s)

/-- The scan of R214 over the entries from index `k` on, with `remaining` bits left and `win len` the next `len` bits. -/
def scanFrom (win : Nat → Nat) (remaining : Nat) : Nat → List CodeEntry → Scan
  | k, [] => .noMatch k
  | k, e :: es =>
    if remaining < e.length.toNat then .short k
    else if windowMax < e.length.toNat then .internal k
    else if win e.length.toNat = e.code.toNat then
      if e.symbol.toNat = eosSymbol then .eos k else .found k
    else scanFrom win remaining (k + 1) es

/-- The index a scan stopped at: `SCAN_K`. -/
def scanIndex : Scan → Nat
  | .found k => k
  | .eos k => k
  | .short k => k
  | .noMatch k => k
  | .internal k => k

/-- What `DEC.SCAN` finds at the current bit offset (R214, R216). -/
def scanResult (s : State) : Scan :=
  scanFrom (window (inZero s) s.work.bitsDone.value)
    (s.work.bitsTotal.value - s.work.bitsDone.value) 0 (s.dt.take nsym)

/-- Whether `DEC.SCAN` may run: its counters written (R25), `DT` built (R23), the input readable (R62; log entry 25). -/
def scanReady (s : State) : Except Fault Unit := do
  needs s [.bitsDone, .bitsTotal]
  if s.dtValid then
    if inputReadable s then .ok () else .error (.access s.inPtr 0)
  else .error .dtAbsent

/-- `DEC.SCAN` (R214) with the PHASE each result leads to (R210): `Internal` ends the command (R222). -/
def decScan (s : State) : Except Fault State := do
  scanReady s
  let r := scanResult s
  let s1 := (s.withWork { s.work with scanK := .wr (BitVec.ofNat 9 (scanIndex r)) }).withRet (.scan r)
  match r with
  | .found _ => .ok (s1.withPhase .emit)
  | .internal _ =>
    needs s [.obPtr, .outPos, .obCap]
    .ok (endCommand .internal s.work.obPtr.value s.work.outPos.value s.work.obCap.value s1)
  | _ => .ok (s1.withPhase .term)

/-- The error end of a denied growth (R223): the full region and the bytes decoded so far, no terminator. -/
def decNoMemory (s : State) : Except Fault State := do
  needs s [.obPtr, .outPos, .obCap]
  .ok (endCommand .outOfMemory s.work.obPtr.value s.work.outPos.value s.work.obCap.value s)

/-- `DEC.EMIT` once the write position is inside the region (R218): write the symbol, advance the counters. -/
def decEmitByte (e : CodeEntry) (s : State) : Except Fault State := do
  needs s [.obPtr, .bitsDone, .bitsTotal]
  let pos := s.work.outPos.value
  let s1 ← outWrite s pos (BitVec.ofNat 8 e.symbol.toNat)
  let pos' ← fit s.sizeW (pos + 1)
  let done' ← fit s.sizeW (s.work.bitsDone.value + e.length.toNat)
  .ok ((s1.withWork { s1.work with outPos := .wr pos', obLen := .wr pos', bitsDone := .wr done' }).withPhase
    (loopPhase done' s.work.bitsTotal.value))

/-- `DEC.EMIT` (R218); a denied growth is `OutOfMemory` (R223). -/
def decEmit (k : Nat) (s : State) : Except Fault State := do
  let e ← dtAt s k
  if 255 < e.symbol.toNat then .error (.notAByte e.symbol.toNat)
  else
    needs s [.outPos]
    match ← obEnsure s.work.outPos.value s with
    | (.fail, s1) => decNoMemory s1
    | (.done, s1) => decEmitByte e s1

/-- `DEC.TERM` once the terminator's offset is inside the region (R219). -/
def decTermByte (s : State) : Except Fault State := do
  needs s [.obPtr, .obCap]
  let s1 ← outWrite s s.work.outPos.value 0
  .ok (endCommand .ok s.work.obPtr.value s.work.outPos.value s.work.obCap.value s1)

/-- `DEC.TERM` (R219): the terminator, with its own growth check, and completion. -/
def decTerm (s : State) : Except Fault State := do
  needs s [.outPos]
  match ← obEnsure s.work.outPos.value s with
  | (.fail, s1) => decNoMemory s1
  | (.done, s1) => decTermByte s1

/-- The index of a symbol's entry in a table. -/
def symbolIndex (table : List CodeEntry) (sym : Nat) : Option Nat :=
  table.findIdx? fun e => e.symbol.toNat == sym

/-- The code of symbol `sym` consumed at the current bit offset (R210): for 0 to 255 the symbol is emitted and
`BITS_DONE` advances by the code's length (R218); that of 256 ends the loop, nothing written, nothing advanced
(R220). Log entry 15. -/
def codePass (sym : Nat) (s : State) : Except Fault State :=
  if s.dtValid then
    match symbolIndex s.dt sym with
    | none => .error (.tableIndex sym)
    | some k =>
      let s1 := s.withWork { s.work with scanK := .wr (BitVec.ofNat 9 k) }
      if sym = eosSymbol then .ok (s1.withPhase .term) else decEmit k s1
  else .error .dtAbsent

/-- DEC.INIT (R211). -/
def execDecInit (s : State) : Host.Outcome State Fault Refusal := .next (decInit s)

/-- DEC.START (R212). -/
def execDecStart (s : State) : Host.Outcome State Fault Refusal := ofRun (decStart s)

/-- DEC.SCAN (R214). -/
def execDecScan (s : State) : Host.Outcome State Fault Refusal := ofRun (decScan s)

/-- DEC.WINDOW (R216): the candidate is the value returned; no state of the engine is written. -/
def execDecWindow (len : BitVec 6) (s : State) : Host.Outcome State Fault Refusal :=
  if len.toNat = 0 ∨ windowMax < len.toNat then .refused .illFormed
  else
    match needs s [.bitsDone] with
    | .error f => .fault f
    | .ok _ =>
      if inputReadable s then
        .next (s.withRet (.window (window (inZero s) s.work.bitsDone.value len.toNat)))
      else .fault (.access s.inPtr 0)

/-- DEC.EMIT (R218). -/
def execDecEmit (k : BitVec 9) (s : State) : Host.Outcome State Fault Refusal := ofRun (decEmit k.toNat s)

/-- DEC.TERM (R219). -/
def execDecTerm (s : State) : Host.Outcome State Fault Refusal := ofRun (decTerm s)

end Sys2Proof.Machine
end

