-- ==== Sys2Proof/Machine/Codes.lean ====
section
/-! DEFINITION. The meanings of the 257 code rows: each consumes the code of its symbol (R210, R218, R220). -/

namespace Sys2Proof.Machine

/-- HUFFCODE.0 (R108, R218). -/
def execHuffcode0 (s : State) : Host.Outcome State Fault Refusal := ofRun (codePass 0 s)
/-- HUFFCODE.1 (R108, R218). -/
def execHuffcode1 (s : State) : Host.Outcome State Fault Refusal := ofRun (codePass 1 s)
/-- HUFFCODE.2 (R108, R218). -/
def execHuffcode2 (s : State) : Host.Outcome State Fault Refusal := ofRun (codePass 2 s)
/-- HUFFCODE.3 (R108, R218). -/
def execHuffcode3 (s : State) : Host.Outcome State Fault Refusal := ofRun (codePass 3 s)
/-- HUFFCODE.4 (R108, R218). -/
def execHuffcode4 (s : State) : Host.Outcome State Fault Refusal := ofRun (codePass 4 s)
/-- HUFFCODE.5 (R108, R218). -/
def execHuffcode5 (s : State) : Host.Outcome State Fault Refusal := ofRun (codePass 5 s)
/-- HUFFCODE.6 (R108, R218). -/
def execHuffcode6 (s : State) : Host.Outcome State Fault Refusal := ofRun (codePass 6 s)
/-- HUFFCODE.7 (R108, R218). -/
def execHuffcode7 (s : State) : Host.Outcome State Fault Refusal := ofRun (codePass 7 s)
/-- HUFFCODE.8 (R108, R218). -/
def execHuffcode8 (s : State) : Host.Outcome State Fault Refusal := ofRun (codePass 8 s)
/-- HUFFCODE.9 (R108, R218). -/
def execHuffcode9 (s : State) : Host.Outcome State Fault Refusal := ofRun (codePass 9 s)
/-- HUFFCODE.10 (R108, R218). -/
def execHuffcode10 (s : State) : Host.Outcome State Fault Refusal := ofRun (codePass 10 s)
/-- HUFFCODE.11 (R108, R218). -/
def execHuffcode11 (s : State) : Host.Outcome State Fault Refusal := ofRun (codePass 11 s)
/-- HUFFCODE.12 (R108, R218). -/
def execHuffcode12 (s : State) : Host.Outcome State Fault Refusal := ofRun (codePass 12 s)
/-- HUFFCODE.13 (R108, R218). -/
def execHuffcode13 (s : State) : Host.Outcome State Fault Refusal := ofRun (codePass 13 s)
/-- HUFFCODE.14 (R108, R218). -/
def execHuffcode14 (s : State) : Host.Outcome State Fault Refusal := ofRun (codePass 14 s)
/-- HUFFCODE.15 (R108, R218). -/
def execHuffcode15 (s : State) : Host.Outcome State Fault Refusal := ofRun (codePass 15 s)
/-- HUFFCODE.16 (R108, R218). -/
def execHuffcode16 (s : State) : Host.Outcome State Fault Refusal := ofRun (codePass 16 s)
/-- HUFFCODE.17 (R108, R218). -/
def execHuffcode17 (s : State) : Host.Outcome State Fault Refusal := ofRun (codePass 17 s)
/-- HUFFCODE.18 (R108, R218). -/
def execHuffcode18 (s : State) : Host.Outcome State Fault Refusal := ofRun (codePass 18 s)
/-- HUFFCODE.19 (R108, R218). -/
def execHuffcode19 (s : State) : Host.Outcome State Fault Refusal := ofRun (codePass 19 s)
/-- HUFFCODE.20 (R108, R218). -/
def execHuffcode20 (s : State) : Host.Outcome State Fault Refusal := ofRun (codePass 20 s)
/-- HUFFCODE.21 (R108, R218). -/
def execHuffcode21 (s : State) : Host.Outcome State Fault Refusal := ofRun (codePass 21 s)
/-- HUFFCODE.22 (R108, R218). -/
def execHuffcode22 (s : State) : Host.Outcome State Fault Refusal := ofRun (codePass 22 s)
/-- HUFFCODE.23 (R108, R218). -/
def execHuffcode23 (s : State) : Host.Outcome State Fault Refusal := ofRun (codePass 23 s)
/-- HUFFCODE.24 (R108, R218). -/
def execHuffcode24 (s : State) : Host.Outcome State Fault Refusal := ofRun (codePass 24 s)
/-- HUFFCODE.25 (R108, R218). -/
def execHuffcode25 (s : State) : Host.Outcome State Fault Refusal := ofRun (codePass 25 s)
/-- HUFFCODE.26 (R108, R218). -/
def execHuffcode26 (s : State) : Host.Outcome State Fault Refusal := ofRun (codePass 26 s)
/-- HUFFCODE.27 (R108, R218). -/
def execHuffcode27 (s : State) : Host.Outcome State Fault Refusal := ofRun (codePass 27 s)
/-- HUFFCODE.28 (R108, R218). -/
def execHuffcode28 (s : State) : Host.Outcome State Fault Refusal := ofRun (codePass 28 s)
/-- HUFFCODE.29 (R108, R218). -/
def execHuffcode29 (s : State) : Host.Outcome State Fault Refusal := ofRun (codePass 29 s)
/-- HUFFCODE.30 (R108, R218). -/
def execHuffcode30 (s : State) : Host.Outcome State Fault Refusal := ofRun (codePass 30 s)
/-- HUFFCODE.31 (R108, R218). -/
def execHuffcode31 (s : State) : Host.Outcome State Fault Refusal := ofRun (codePass 31 s)
/-- HUFFCODE.32 (R108, R218). -/
def execHuffcode32 (s : State) : Host.Outcome State Fault Refusal := ofRun (codePass 32 s)
/-- HUFFCODE.33 (R108, R218). -/
def execHuffcode33 (s : State) : Host.Outcome State Fault Refusal := ofRun (codePass 33 s)
/-- HUFFCODE.34 (R108, R218). -/
def execHuffcode34 (s : State) : Host.Outcome State Fault Refusal := ofRun (codePass 34 s)
/-- HUFFCODE.35 (R108, R218). -/
def execHuffcode35 (s : State) : Host.Outcome State Fault Refusal := ofRun (codePass 35 s)
/-- HUFFCODE.36 (R108, R218). -/
def execHuffcode36 (s : State) : Host.Outcome State Fault Refusal := ofRun (codePass 36 s)
/-- HUFFCODE.37 (R108, R218). -/
def execHuffcode37 (s : State) : Host.Outcome State Fault Refusal := ofRun (codePass 37 s)
/-- HUFFCODE.38 (R108, R218). -/
def execHuffcode38 (s : State) : Host.Outcome State Fault Refusal := ofRun (codePass 38 s)
/-- HUFFCODE.39 (R108, R218). -/
def execHuffcode39 (s : State) : Host.Outcome State Fault Refusal := ofRun (codePass 39 s)
/-- HUFFCODE.40 (R108, R218). -/
def execHuffcode40 (s : State) : Host.Outcome State Fault Refusal := ofRun (codePass 40 s)
/-- HUFFCODE.41 (R108, R218). -/
def execHuffcode41 (s : State) : Host.Outcome State Fault Refusal := ofRun (codePass 41 s)
/-- HUFFCODE.42 (R108, R218). -/
def execHuffcode42 (s : State) : Host.Outcome State Fault Refusal := ofRun (codePass 42 s)
/-- HUFFCODE.43 (R108, R218). -/
def execHuffcode43 (s : State) : Host.Outcome State Fault Refusal := ofRun (codePass 43 s)
/-- HUFFCODE.44 (R108, R218). -/
def execHuffcode44 (s : State) : Host.Outcome State Fault Refusal := ofRun (codePass 44 s)
/-- HUFFCODE.45 (R108, R218). -/
def execHuffcode45 (s : State) : Host.Outcome State Fault Refusal := ofRun (codePass 45 s)
/-- HUFFCODE.46 (R108, R218). -/
def execHuffcode46 (s : State) : Host.Outcome State Fault Refusal := ofRun (codePass 46 s)
/-- HUFFCODE.47 (R108, R218). -/
def execHuffcode47 (s : State) : Host.Outcome State Fault Refusal := ofRun (codePass 47 s)
/-- HUFFCODE.48 (R108, R218). -/
def execHuffcode48 (s : State) : Host.Outcome State Fault Refusal := ofRun (codePass 48 s)
/-- HUFFCODE.49 (R108, R218). -/
def execHuffcode49 (s : State) : Host.Outcome State Fault Refusal := ofRun (codePass 49 s)
/-- HUFFCODE.50 (R108, R218). -/
def execHuffcode50 (s : State) : Host.Outcome State Fault Refusal := ofRun (codePass 50 s)
/-- HUFFCODE.51 (R108, R218). -/
def execHuffcode51 (s : State) : Host.Outcome State Fault Refusal := ofRun (codePass 51 s)
/-- HUFFCODE.52 (R108, R218). -/
def execHuffcode52 (s : State) : Host.Outcome State Fault Refusal := ofRun (codePass 52 s)
/-- HUFFCODE.53 (R108, R218). -/
def execHuffcode53 (s : State) : Host.Outcome State Fault Refusal := ofRun (codePass 53 s)
/-- HUFFCODE.54 (R108, R218). -/
def execHuffcode54 (s : State) : Host.Outcome State Fault Refusal := ofRun (codePass 54 s)
/-- HUFFCODE.55 (R108, R218). -/
def execHuffcode55 (s : State) : Host.Outcome State Fault Refusal := ofRun (codePass 55 s)
/-- HUFFCODE.56 (R108, R218). -/
def execHuffcode56 (s : State) : Host.Outcome State Fault Refusal := ofRun (codePass 56 s)
/-- HUFFCODE.57 (R108, R218). -/
def execHuffcode57 (s : State) : Host.Outcome State Fault Refusal := ofRun (codePass 57 s)
/-- HUFFCODE.58 (R108, R218). -/
def execHuffcode58 (s : State) : Host.Outcome State Fault Refusal := ofRun (codePass 58 s)
/-- HUFFCODE.59 (R108, R218). -/
def execHuffcode59 (s : State) : Host.Outcome State Fault Refusal := ofRun (codePass 59 s)
/-- HUFFCODE.60 (R108, R218). -/
def execHuffcode60 (s : State) : Host.Outcome State Fault Refusal := ofRun (codePass 60 s)
/-- HUFFCODE.61 (R108, R218). -/
def execHuffcode61 (s : State) : Host.Outcome State Fault Refusal := ofRun (codePass 61 s)
/-- HUFFCODE.62 (R108, R218). -/
def execHuffcode62 (s : State) : Host.Outcome State Fault Refusal := ofRun (codePass 62 s)
/-- HUFFCODE.63 (R108, R218). -/
def execHuffcode63 (s : State) : Host.Outcome State Fault Refusal := ofRun (codePass 63 s)
/-- HUFFCODE.64 (R108, R218). -/
def execHuffcode64 (s : State) : Host.Outcome State Fault Refusal := ofRun (codePass 64 s)
/-- HUFFCODE.65 (R108, R218). -/
def execHuffcode65 (s : State) : Host.Outcome State Fault Refusal := ofRun (codePass 65 s)
/-- HUFFCODE.66 (R108, R218). -/
def execHuffcode66 (s : State) : Host.Outcome State Fault Refusal := ofRun (codePass 66 s)
/-- HUFFCODE.67 (R108, R218). -/
def execHuffcode67 (s : State) : Host.Outcome State Fault Refusal := ofRun (codePass 67 s)
/-- HUFFCODE.68 (R108, R218). -/
def execHuffcode68 (s : State) : Host.Outcome State Fault Refusal := ofRun (codePass 68 s)
/-- HUFFCODE.69 (R108, R218). -/
def execHuffcode69 (s : State) : Host.Outcome State Fault Refusal := ofRun (codePass 69 s)
/-- HUFFCODE.70 (R108, R218). -/
def execHuffcode70 (s : State) : Host.Outcome State Fault Refusal := ofRun (codePass 70 s)
/-- HUFFCODE.71 (R108, R218). -/
def execHuffcode71 (s : State) : Host.Outcome State Fault Refusal := ofRun (codePass 71 s)
/-- HUFFCODE.72 (R108, R218). -/
def execHuffcode72 (s : State) : Host.Outcome State Fault Refusal := ofRun (codePass 72 s)
/-- HUFFCODE.73 (R108, R218). -/
def execHuffcode73 (s : State) : Host.Outcome State Fault Refusal := ofRun (codePass 73 s)
/-- HUFFCODE.74 (R108, R218). -/
def execHuffcode74 (s : State) : Host.Outcome State Fault Refusal := ofRun (codePass 74 s)
/-- HUFFCODE.75 (R108, R218). -/
def execHuffcode75 (s : State) : Host.Outcome State Fault Refusal := ofRun (codePass 75 s)
/-- HUFFCODE.76 (R108, R218). -/
def execHuffcode76 (s : State) : Host.Outcome State Fault Refusal := ofRun (codePass 76 s)
/-- HUFFCODE.77 (R108, R218). -/
def execHuffcode77 (s : State) : Host.Outcome State Fault Refusal := ofRun (codePass 77 s)
/-- HUFFCODE.78 (R108, R218). -/
def execHuffcode78 (s : State) : Host.Outcome State Fault Refusal := ofRun (codePass 78 s)
/-- HUFFCODE.79 (R108, R218). -/
def execHuffcode79 (s : State) : Host.Outcome State Fault Refusal := ofRun (codePass 79 s)
/-- HUFFCODE.80 (R108, R218). -/
def execHuffcode80 (s : State) : Host.Outcome State Fault Refusal := ofRun (codePass 80 s)
/-- HUFFCODE.81 (R108, R218). -/
def execHuffcode81 (s : State) : Host.Outcome State Fault Refusal := ofRun (codePass 81 s)
/-- HUFFCODE.82 (R108, R218). -/
def execHuffcode82 (s : State) : Host.Outcome State Fault Refusal := ofRun (codePass 82 s)
/-- HUFFCODE.83 (R108, R218). -/
def execHuffcode83 (s : State) : Host.Outcome State Fault Refusal := ofRun (codePass 83 s)
/-- HUFFCODE.84 (R108, R218). -/
def execHuffcode84 (s : State) : Host.Outcome State Fault Refusal := ofRun (codePass 84 s)
/-- HUFFCODE.85 (R108, R218). -/
def execHuffcode85 (s : State) : Host.Outcome State Fault Refusal := ofRun (codePass 85 s)
/-- HUFFCODE.86 (R108, R218). -/
def execHuffcode86 (s : State) : Host.Outcome State Fault Refusal := ofRun (codePass 86 s)
/-- HUFFCODE.87 (R108, R218). -/
def execHuffcode87 (s : State) : Host.Outcome State Fault Refusal := ofRun (codePass 87 s)
/-- HUFFCODE.88 (R108, R218). -/
def execHuffcode88 (s : State) : Host.Outcome State Fault Refusal := ofRun (codePass 88 s)
/-- HUFFCODE.89 (R108, R218). -/
def execHuffcode89 (s : State) : Host.Outcome State Fault Refusal := ofRun (codePass 89 s)
/-- HUFFCODE.90 (R108, R218). -/
def execHuffcode90 (s : State) : Host.Outcome State Fault Refusal := ofRun (codePass 90 s)
/-- HUFFCODE.91 (R108, R218). -/
def execHuffcode91 (s : State) : Host.Outcome State Fault Refusal := ofRun (codePass 91 s)
/-- HUFFCODE.92 (R108, R218). -/
def execHuffcode92 (s : State) : Host.Outcome State Fault Refusal := ofRun (codePass 92 s)
/-- HUFFCODE.93 (R108, R218). -/
def execHuffcode93 (s : State) : Host.Outcome State Fault Refusal := ofRun (codePass 93 s)
/-- HUFFCODE.94 (R108, R218). -/
def execHuffcode94 (s : State) : Host.Outcome State Fault Refusal := ofRun (codePass 94 s)
/-- HUFFCODE.95 (R108, R218). -/
def execHuffcode95 (s : State) : Host.Outcome State Fault Refusal := ofRun (codePass 95 s)
/-- HUFFCODE.96 (R108, R218). -/
def execHuffcode96 (s : State) : Host.Outcome State Fault Refusal := ofRun (codePass 96 s)
/-- HUFFCODE.97 (R108, R218). -/
def execHuffcode97 (s : State) : Host.Outcome State Fault Refusal := ofRun (codePass 97 s)
/-- HUFFCODE.98 (R108, R218). -/
def execHuffcode98 (s : State) : Host.Outcome State Fault Refusal := ofRun (codePass 98 s)
/-- HUFFCODE.99 (R108, R218). -/
def execHuffcode99 (s : State) : Host.Outcome State Fault Refusal := ofRun (codePass 99 s)
/-- HUFFCODE.100 (R108, R218). -/
def execHuffcode100 (s : State) : Host.Outcome State Fault Refusal := ofRun (codePass 100 s)
/-- HUFFCODE.101 (R108, R218). -/
def execHuffcode101 (s : State) : Host.Outcome State Fault Refusal := ofRun (codePass 101 s)
/-- HUFFCODE.102 (R108, R218). -/
def execHuffcode102 (s : State) : Host.Outcome State Fault Refusal := ofRun (codePass 102 s)
/-- HUFFCODE.103 (R108, R218). -/
def execHuffcode103 (s : State) : Host.Outcome State Fault Refusal := ofRun (codePass 103 s)
/-- HUFFCODE.104 (R108, R218). -/
def execHuffcode104 (s : State) : Host.Outcome State Fault Refusal := ofRun (codePass 104 s)
/-- HUFFCODE.105 (R108, R218). -/
def execHuffcode105 (s : State) : Host.Outcome State Fault Refusal := ofRun (codePass 105 s)
/-- HUFFCODE.106 (R108, R218). -/
def execHuffcode106 (s : State) : Host.Outcome State Fault Refusal := ofRun (codePass 106 s)
/-- HUFFCODE.107 (R108, R218). -/
def execHuffcode107 (s : State) : Host.Outcome State Fault Refusal := ofRun (codePass 107 s)
/-- HUFFCODE.108 (R108, R218). -/
def execHuffcode108 (s : State) : Host.Outcome State Fault Refusal := ofRun (codePass 108 s)
/-- HUFFCODE.109 (R108, R218). -/
def execHuffcode109 (s : State) : Host.Outcome State Fault Refusal := ofRun (codePass 109 s)
/-- HUFFCODE.110 (R108, R218). -/
def execHuffcode110 (s : State) : Host.Outcome State Fault Refusal := ofRun (codePass 110 s)
/-- HUFFCODE.111 (R108, R218). -/
def execHuffcode111 (s : State) : Host.Outcome State Fault Refusal := ofRun (codePass 111 s)
/-- HUFFCODE.112 (R108, R218). -/
def execHuffcode112 (s : State) : Host.Outcome State Fault Refusal := ofRun (codePass 112 s)
/-- HUFFCODE.113 (R108, R218). -/
def execHuffcode113 (s : State) : Host.Outcome State Fault Refusal := ofRun (codePass 113 s)
/-- HUFFCODE.114 (R108, R218). -/
def execHuffcode114 (s : State) : Host.Outcome State Fault Refusal := ofRun (codePass 114 s)
/-- HUFFCODE.115 (R108, R218). -/
def execHuffcode115 (s : State) : Host.Outcome State Fault Refusal := ofRun (codePass 115 s)
/-- HUFFCODE.116 (R108, R218). -/
def execHuffcode116 (s : State) : Host.Outcome State Fault Refusal := ofRun (codePass 116 s)
/-- HUFFCODE.117 (R108, R218). -/
def execHuffcode117 (s : State) : Host.Outcome State Fault Refusal := ofRun (codePass 117 s)
/-- HUFFCODE.118 (R108, R218). -/
def execHuffcode118 (s : State) : Host.Outcome State Fault Refusal := ofRun (codePass 118 s)
/-- HUFFCODE.119 (R108, R218). -/
def execHuffcode119 (s : State) : Host.Outcome State Fault Refusal := ofRun (codePass 119 s)
/-- HUFFCODE.120 (R108, R218). -/
def execHuffcode120 (s : State) : Host.Outcome State Fault Refusal := ofRun (codePass 120 s)
/-- HUFFCODE.121 (R108, R218). -/
def execHuffcode121 (s : State) : Host.Outcome State Fault Refusal := ofRun (codePass 121 s)
/-- HUFFCODE.122 (R108, R218). -/
def execHuffcode122 (s : State) : Host.Outcome State Fault Refusal := ofRun (codePass 122 s)
/-- HUFFCODE.123 (R108, R218). -/
def execHuffcode123 (s : State) : Host.Outcome State Fault Refusal := ofRun (codePass 123 s)
/-- HUFFCODE.124 (R108, R218). -/
def execHuffcode124 (s : State) : Host.Outcome State Fault Refusal := ofRun (codePass 124 s)
/-- HUFFCODE.125 (R108, R218). -/
def execHuffcode125 (s : State) : Host.Outcome State Fault Refusal := ofRun (codePass 125 s)
/-- HUFFCODE.126 (R108, R218). -/
def execHuffcode126 (s : State) : Host.Outcome State Fault Refusal := ofRun (codePass 126 s)
/-- HUFFCODE.127 (R108, R218). -/
def execHuffcode127 (s : State) : Host.Outcome State Fault Refusal := ofRun (codePass 127 s)
/-- HUFFCODE.128 (R108, R218). -/
def execHuffcode128 (s : State) : Host.Outcome State Fault Refusal := ofRun (codePass 128 s)
/-- HUFFCODE.129 (R108, R218). -/
def execHuffcode129 (s : State) : Host.Outcome State Fault Refusal := ofRun (codePass 129 s)
/-- HUFFCODE.130 (R108, R218). -/
def execHuffcode130 (s : State) : Host.Outcome State Fault Refusal := ofRun (codePass 130 s)
/-- HUFFCODE.131 (R108, R218). -/
def execHuffcode131 (s : State) : Host.Outcome State Fault Refusal := ofRun (codePass 131 s)
/-- HUFFCODE.132 (R108, R218). -/
def execHuffcode132 (s : State) : Host.Outcome State Fault Refusal := ofRun (codePass 132 s)
/-- HUFFCODE.133 (R108, R218). -/
def execHuffcode133 (s : State) : Host.Outcome State Fault Refusal := ofRun (codePass 133 s)
/-- HUFFCODE.134 (R108, R218). -/
def execHuffcode134 (s : State) : Host.Outcome State Fault Refusal := ofRun (codePass 134 s)
/-- HUFFCODE.135 (R108, R218). -/
def execHuffcode135 (s : State) : Host.Outcome State Fault Refusal := ofRun (codePass 135 s)
/-- HUFFCODE.136 (R108, R218). -/
def execHuffcode136 (s : State) : Host.Outcome State Fault Refusal := ofRun (codePass 136 s)
/-- HUFFCODE.137 (R108, R218). -/
def execHuffcode137 (s : State) : Host.Outcome State Fault Refusal := ofRun (codePass 137 s)
/-- HUFFCODE.138 (R108, R218). -/
def execHuffcode138 (s : State) : Host.Outcome State Fault Refusal := ofRun (codePass 138 s)
/-- HUFFCODE.139 (R108, R218). -/
def execHuffcode139 (s : State) : Host.Outcome State Fault Refusal := ofRun (codePass 139 s)
/-- HUFFCODE.140 (R108, R218). -/
def execHuffcode140 (s : State) : Host.Outcome State Fault Refusal := ofRun (codePass 140 s)
/-- HUFFCODE.141 (R108, R218). -/
def execHuffcode141 (s : State) : Host.Outcome State Fault Refusal := ofRun (codePass 141 s)
/-- HUFFCODE.142 (R108, R218). -/
def execHuffcode142 (s : State) : Host.Outcome State Fault Refusal := ofRun (codePass 142 s)
/-- HUFFCODE.143 (R108, R218). -/
def execHuffcode143 (s : State) : Host.Outcome State Fault Refusal := ofRun (codePass 143 s)
/-- HUFFCODE.144 (R108, R218). -/
def execHuffcode144 (s : State) : Host.Outcome State Fault Refusal := ofRun (codePass 144 s)
/-- HUFFCODE.145 (R108, R218). -/
def execHuffcode145 (s : State) : Host.Outcome State Fault Refusal := ofRun (codePass 145 s)
/-- HUFFCODE.146 (R108, R218). -/
def execHuffcode146 (s : State) : Host.Outcome State Fault Refusal := ofRun (codePass 146 s)
/-- HUFFCODE.147 (R108, R218). -/
def execHuffcode147 (s : State) : Host.Outcome State Fault Refusal := ofRun (codePass 147 s)
/-- HUFFCODE.148 (R108, R218). -/
def execHuffcode148 (s : State) : Host.Outcome State Fault Refusal := ofRun (codePass 148 s)
/-- HUFFCODE.149 (R108, R218). -/
def execHuffcode149 (s : State) : Host.Outcome State Fault Refusal := ofRun (codePass 149 s)
/-- HUFFCODE.150 (R108, R218). -/
def execHuffcode150 (s : State) : Host.Outcome State Fault Refusal := ofRun (codePass 150 s)
/-- HUFFCODE.151 (R108, R218). -/
def execHuffcode151 (s : State) : Host.Outcome State Fault Refusal := ofRun (codePass 151 s)
/-- HUFFCODE.152 (R108, R218). -/
def execHuffcode152 (s : State) : Host.Outcome State Fault Refusal := ofRun (codePass 152 s)
/-- HUFFCODE.153 (R108, R218). -/
def execHuffcode153 (s : State) : Host.Outcome State Fault Refusal := ofRun (codePass 153 s)
/-- HUFFCODE.154 (R108, R218). -/
def execHuffcode154 (s : State) : Host.Outcome State Fault Refusal := ofRun (codePass 154 s)
/-- HUFFCODE.155 (R108, R218). -/
def execHuffcode155 (s : State) : Host.Outcome State Fault Refusal := ofRun (codePass 155 s)
/-- HUFFCODE.156 (R108, R218). -/
def execHuffcode156 (s : State) : Host.Outcome State Fault Refusal := ofRun (codePass 156 s)
/-- HUFFCODE.157 (R108, R218). -/
def execHuffcode157 (s : State) : Host.Outcome State Fault Refusal := ofRun (codePass 157 s)
/-- HUFFCODE.158 (R108, R218). -/
def execHuffcode158 (s : State) : Host.Outcome State Fault Refusal := ofRun (codePass 158 s)
/-- HUFFCODE.159 (R108, R218). -/
def execHuffcode159 (s : State) : Host.Outcome State Fault Refusal := ofRun (codePass 159 s)
/-- HUFFCODE.160 (R108, R218). -/
def execHuffcode160 (s : State) : Host.Outcome State Fault Refusal := ofRun (codePass 160 s)
/-- HUFFCODE.161 (R108, R218). -/
def execHuffcode161 (s : State) : Host.Outcome State Fault Refusal := ofRun (codePass 161 s)
/-- HUFFCODE.162 (R108, R218). -/
def execHuffcode162 (s : State) : Host.Outcome State Fault Refusal := ofRun (codePass 162 s)
/-- HUFFCODE.163 (R108, R218). -/
def execHuffcode163 (s : State) : Host.Outcome State Fault Refusal := ofRun (codePass 163 s)
/-- HUFFCODE.164 (R108, R218). -/
def execHuffcode164 (s : State) : Host.Outcome State Fault Refusal := ofRun (codePass 164 s)
/-- HUFFCODE.165 (R108, R218). -/
def execHuffcode165 (s : State) : Host.Outcome State Fault Refusal := ofRun (codePass 165 s)
/-- HUFFCODE.166 (R108, R218). -/
def execHuffcode166 (s : State) : Host.Outcome State Fault Refusal := ofRun (codePass 166 s)
/-- HUFFCODE.167 (R108, R218). -/
def execHuffcode167 (s : State) : Host.Outcome State Fault Refusal := ofRun (codePass 167 s)
/-- HUFFCODE.168 (R108, R218). -/
def execHuffcode168 (s : State) : Host.Outcome State Fault Refusal := ofRun (codePass 168 s)
/-- HUFFCODE.169 (R108, R218). -/
def execHuffcode169 (s : State) : Host.Outcome State Fault Refusal := ofRun (codePass 169 s)
/-- HUFFCODE.170 (R108, R218). -/
def execHuffcode170 (s : State) : Host.Outcome State Fault Refusal := ofRun (codePass 170 s)
/-- HUFFCODE.171 (R108, R218). -/
def execHuffcode171 (s : State) : Host.Outcome State Fault Refusal := ofRun (codePass 171 s)
/-- HUFFCODE.172 (R108, R218). -/
def execHuffcode172 (s : State) : Host.Outcome State Fault Refusal := ofRun (codePass 172 s)
/-- HUFFCODE.173 (R108, R218). -/
def execHuffcode173 (s : State) : Host.Outcome State Fault Refusal := ofRun (codePass 173 s)
/-- HUFFCODE.174 (R108, R218). -/
def execHuffcode174 (s : State) : Host.Outcome State Fault Refusal := ofRun (codePass 174 s)
/-- HUFFCODE.175 (R108, R218). -/
def execHuffcode175 (s : State) : Host.Outcome State Fault Refusal := ofRun (codePass 175 s)
/-- HUFFCODE.176 (R108, R218). -/
def execHuffcode176 (s : State) : Host.Outcome State Fault Refusal := ofRun (codePass 176 s)
/-- HUFFCODE.177 (R108, R218). -/
def execHuffcode177 (s : State) : Host.Outcome State Fault Refusal := ofRun (codePass 177 s)
/-- HUFFCODE.178 (R108, R218). -/
def execHuffcode178 (s : State) : Host.Outcome State Fault Refusal := ofRun (codePass 178 s)
/-- HUFFCODE.179 (R108, R218). -/
def execHuffcode179 (s : State) : Host.Outcome State Fault Refusal := ofRun (codePass 179 s)
/-- HUFFCODE.180 (R108, R218). -/
def execHuffcode180 (s : State) : Host.Outcome State Fault Refusal := ofRun (codePass 180 s)
/-- HUFFCODE.181 (R108, R218). -/
def execHuffcode181 (s : State) : Host.Outcome State Fault Refusal := ofRun (codePass 181 s)
/-- HUFFCODE.182 (R108, R218). -/
def execHuffcode182 (s : State) : Host.Outcome State Fault Refusal := ofRun (codePass 182 s)
/-- HUFFCODE.183 (R108, R218). -/
def execHuffcode183 (s : State) : Host.Outcome State Fault Refusal := ofRun (codePass 183 s)
/-- HUFFCODE.184 (R108, R218). -/
def execHuffcode184 (s : State) : Host.Outcome State Fault Refusal := ofRun (codePass 184 s)
/-- HUFFCODE.185 (R108, R218). -/
def execHuffcode185 (s : State) : Host.Outcome State Fault Refusal := ofRun (codePass 185 s)
/-- HUFFCODE.186 (R108, R218). -/
def execHuffcode186 (s : State) : Host.Outcome State Fault Refusal := ofRun (codePass 186 s)
/-- HUFFCODE.187 (R108, R218). -/
def execHuffcode187 (s : State) : Host.Outcome State Fault Refusal := ofRun (codePass 187 s)
/-- HUFFCODE.188 (R108, R218). -/
def execHuffcode188 (s : State) : Host.Outcome State Fault Refusal := ofRun (codePass 188 s)
/-- HUFFCODE.189 (R108, R218). -/
def execHuffcode189 (s : State) : Host.Outcome State Fault Refusal := ofRun (codePass 189 s)
/-- HUFFCODE.190 (R108, R218). -/
def execHuffcode190 (s : State) : Host.Outcome State Fault Refusal := ofRun (codePass 190 s)
/-- HUFFCODE.191 (R108, R218). -/
def execHuffcode191 (s : State) : Host.Outcome State Fault Refusal := ofRun (codePass 191 s)
/-- HUFFCODE.192 (R108, R218). -/
def execHuffcode192 (s : State) : Host.Outcome State Fault Refusal := ofRun (codePass 192 s)
/-- HUFFCODE.193 (R108, R218). -/
def execHuffcode193 (s : State) : Host.Outcome State Fault Refusal := ofRun (codePass 193 s)
/-- HUFFCODE.194 (R108, R218). -/
def execHuffcode194 (s : State) : Host.Outcome State Fault Refusal := ofRun (codePass 194 s)
/-- HUFFCODE.195 (R108, R218). -/
def execHuffcode195 (s : State) : Host.Outcome State Fault Refusal := ofRun (codePass 195 s)
/-- HUFFCODE.196 (R108, R218). -/
def execHuffcode196 (s : State) : Host.Outcome State Fault Refusal := ofRun (codePass 196 s)
/-- HUFFCODE.197 (R108, R218). -/
def execHuffcode197 (s : State) : Host.Outcome State Fault Refusal := ofRun (codePass 197 s)
/-- HUFFCODE.198 (R108, R218). -/
def execHuffcode198 (s : State) : Host.Outcome State Fault Refusal := ofRun (codePass 198 s)
/-- HUFFCODE.199 (R108, R218). -/
def execHuffcode199 (s : State) : Host.Outcome State Fault Refusal := ofRun (codePass 199 s)
/-- HUFFCODE.200 (R108, R218). -/
def execHuffcode200 (s : State) : Host.Outcome State Fault Refusal := ofRun (codePass 200 s)
/-- HUFFCODE.201 (R108, R218). -/
def execHuffcode201 (s : State) : Host.Outcome State Fault Refusal := ofRun (codePass 201 s)
/-- HUFFCODE.202 (R108, R218). -/
def execHuffcode202 (s : State) : Host.Outcome State Fault Refusal := ofRun (codePass 202 s)
/-- HUFFCODE.203 (R108, R218). -/
def execHuffcode203 (s : State) : Host.Outcome State Fault Refusal := ofRun (codePass 203 s)
/-- HUFFCODE.204 (R108, R218). -/
def execHuffcode204 (s : State) : Host.Outcome State Fault Refusal := ofRun (codePass 204 s)
/-- HUFFCODE.205 (R108, R218). -/
def execHuffcode205 (s : State) : Host.Outcome State Fault Refusal := ofRun (codePass 205 s)
/-- HUFFCODE.206 (R108, R218). -/
def execHuffcode206 (s : State) : Host.Outcome State Fault Refusal := ofRun (codePass 206 s)
/-- HUFFCODE.207 (R108, R218). -/
def execHuffcode207 (s : State) : Host.Outcome State Fault Refusal := ofRun (codePass 207 s)
/-- HUFFCODE.208 (R108, R218). -/
def execHuffcode208 (s : State) : Host.Outcome State Fault Refusal := ofRun (codePass 208 s)
/-- HUFFCODE.209 (R108, R218). -/
def execHuffcode209 (s : State) : Host.Outcome State Fault Refusal := ofRun (codePass 209 s)
/-- HUFFCODE.210 (R108, R218). -/
def execHuffcode210 (s : State) : Host.Outcome State Fault Refusal := ofRun (codePass 210 s)
/-- HUFFCODE.211 (R108, R218). -/
def execHuffcode211 (s : State) : Host.Outcome State Fault Refusal := ofRun (codePass 211 s)
/-- HUFFCODE.212 (R108, R218). -/
def execHuffcode212 (s : State) : Host.Outcome State Fault Refusal := ofRun (codePass 212 s)
/-- HUFFCODE.213 (R108, R218). -/
def execHuffcode213 (s : State) : Host.Outcome State Fault Refusal := ofRun (codePass 213 s)
/-- HUFFCODE.214 (R108, R218). -/
def execHuffcode214 (s : State) : Host.Outcome State Fault Refusal := ofRun (codePass 214 s)
/-- HUFFCODE.215 (R108, R218). -/
def execHuffcode215 (s : State) : Host.Outcome State Fault Refusal := ofRun (codePass 215 s)
/-- HUFFCODE.216 (R108, R218). -/
def execHuffcode216 (s : State) : Host.Outcome State Fault Refusal := ofRun (codePass 216 s)
/-- HUFFCODE.217 (R108, R218). -/
def execHuffcode217 (s : State) : Host.Outcome State Fault Refusal := ofRun (codePass 217 s)
/-- HUFFCODE.218 (R108, R218). -/
def execHuffcode218 (s : State) : Host.Outcome State Fault Refusal := ofRun (codePass 218 s)
/-- HUFFCODE.219 (R108, R218). -/
def execHuffcode219 (s : State) : Host.Outcome State Fault Refusal := ofRun (codePass 219 s)
/-- HUFFCODE.220 (R108, R218). -/
def execHuffcode220 (s : State) : Host.Outcome State Fault Refusal := ofRun (codePass 220 s)
/-- HUFFCODE.221 (R108, R218). -/
def execHuffcode221 (s : State) : Host.Outcome State Fault Refusal := ofRun (codePass 221 s)
/-- HUFFCODE.222 (R108, R218). -/
def execHuffcode222 (s : State) : Host.Outcome State Fault Refusal := ofRun (codePass 222 s)
/-- HUFFCODE.223 (R108, R218). -/
def execHuffcode223 (s : State) : Host.Outcome State Fault Refusal := ofRun (codePass 223 s)
/-- HUFFCODE.224 (R108, R218). -/
def execHuffcode224 (s : State) : Host.Outcome State Fault Refusal := ofRun (codePass 224 s)
/-- HUFFCODE.225 (R108, R218). -/
def execHuffcode225 (s : State) : Host.Outcome State Fault Refusal := ofRun (codePass 225 s)
/-- HUFFCODE.226 (R108, R218). -/
def execHuffcode226 (s : State) : Host.Outcome State Fault Refusal := ofRun (codePass 226 s)
/-- HUFFCODE.227 (R108, R218). -/
def execHuffcode227 (s : State) : Host.Outcome State Fault Refusal := ofRun (codePass 227 s)
/-- HUFFCODE.228 (R108, R218). -/
def execHuffcode228 (s : State) : Host.Outcome State Fault Refusal := ofRun (codePass 228 s)
/-- HUFFCODE.229 (R108, R218). -/
def execHuffcode229 (s : State) : Host.Outcome State Fault Refusal := ofRun (codePass 229 s)
/-- HUFFCODE.230 (R108, R218). -/
def execHuffcode230 (s : State) : Host.Outcome State Fault Refusal := ofRun (codePass 230 s)
/-- HUFFCODE.231 (R108, R218). -/
def execHuffcode231 (s : State) : Host.Outcome State Fault Refusal := ofRun (codePass 231 s)
/-- HUFFCODE.232 (R108, R218). -/
def execHuffcode232 (s : State) : Host.Outcome State Fault Refusal := ofRun (codePass 232 s)
/-- HUFFCODE.233 (R108, R218). -/
def execHuffcode233 (s : State) : Host.Outcome State Fault Refusal := ofRun (codePass 233 s)
/-- HUFFCODE.234 (R108, R218). -/
def execHuffcode234 (s : State) : Host.Outcome State Fault Refusal := ofRun (codePass 234 s)
/-- HUFFCODE.235 (R108, R218). -/
def execHuffcode235 (s : State) : Host.Outcome State Fault Refusal := ofRun (codePass 235 s)
/-- HUFFCODE.236 (R108, R218). -/
def execHuffcode236 (s : State) : Host.Outcome State Fault Refusal := ofRun (codePass 236 s)
/-- HUFFCODE.237 (R108, R218). -/
def execHuffcode237 (s : State) : Host.Outcome State Fault Refusal := ofRun (codePass 237 s)
/-- HUFFCODE.238 (R108, R218). -/
def execHuffcode238 (s : State) : Host.Outcome State Fault Refusal := ofRun (codePass 238 s)
/-- HUFFCODE.239 (R108, R218). -/
def execHuffcode239 (s : State) : Host.Outcome State Fault Refusal := ofRun (codePass 239 s)
/-- HUFFCODE.240 (R108, R218). -/
def execHuffcode240 (s : State) : Host.Outcome State Fault Refusal := ofRun (codePass 240 s)
/-- HUFFCODE.241 (R108, R218). -/
def execHuffcode241 (s : State) : Host.Outcome State Fault Refusal := ofRun (codePass 241 s)
/-- HUFFCODE.242 (R108, R218). -/
def execHuffcode242 (s : State) : Host.Outcome State Fault Refusal := ofRun (codePass 242 s)
/-- HUFFCODE.243 (R108, R218). -/
def execHuffcode243 (s : State) : Host.Outcome State Fault Refusal := ofRun (codePass 243 s)
/-- HUFFCODE.244 (R108, R218). -/
def execHuffcode244 (s : State) : Host.Outcome State Fault Refusal := ofRun (codePass 244 s)
/-- HUFFCODE.245 (R108, R218). -/
def execHuffcode245 (s : State) : Host.Outcome State Fault Refusal := ofRun (codePass 245 s)
/-- HUFFCODE.246 (R108, R218). -/
def execHuffcode246 (s : State) : Host.Outcome State Fault Refusal := ofRun (codePass 246 s)
/-- HUFFCODE.247 (R108, R218). -/
def execHuffcode247 (s : State) : Host.Outcome State Fault Refusal := ofRun (codePass 247 s)
/-- HUFFCODE.248 (R108, R218). -/
def execHuffcode248 (s : State) : Host.Outcome State Fault Refusal := ofRun (codePass 248 s)
/-- HUFFCODE.249 (R108, R218). -/
def execHuffcode249 (s : State) : Host.Outcome State Fault Refusal := ofRun (codePass 249 s)
/-- HUFFCODE.250 (R108, R218). -/
def execHuffcode250 (s : State) : Host.Outcome State Fault Refusal := ofRun (codePass 250 s)
/-- HUFFCODE.251 (R108, R218). -/
def execHuffcode251 (s : State) : Host.Outcome State Fault Refusal := ofRun (codePass 251 s)
/-- HUFFCODE.252 (R108, R218). -/
def execHuffcode252 (s : State) : Host.Outcome State Fault Refusal := ofRun (codePass 252 s)
/-- HUFFCODE.253 (R108, R218). -/
def execHuffcode253 (s : State) : Host.Outcome State Fault Refusal := ofRun (codePass 253 s)
/-- HUFFCODE.254 (R108, R218). -/
def execHuffcode254 (s : State) : Host.Outcome State Fault Refusal := ofRun (codePass 254 s)
/-- HUFFCODE.255 (R108, R218). -/
def execHuffcode255 (s : State) : Host.Outcome State Fault Refusal := ofRun (codePass 255 s)
/-- HUFFCODE.256 (R108, R218, R220). -/
def execHuffcode256 (s : State) : Host.Outcome State Fault Refusal := ofRun (codePass 256 s)

end Sys2Proof.Machine
end

