-- ==== Sys2Proof/Machine/Encoder.lean ====
section
/-! DEFINITION. The encoder's micro-operations: ENC.ALLOC, ENC.FETCH, ENC.PACK, ENC.PAD (43_encoder.md). -/

namespace Sys2Proof.Machine

open Sys2Proof

/-- `ENC.ALLOC` (R183); a denial is "no result" (R189). The increment 100 must fit `OB_INC` (R9; log entry 1). -/
def encAlloc (s : State) : Except Fault State := do
  let size ← fit s.sizeW (cap0 s.inLen)
  let inc ← fit s.sizeW encInc
  let s1 := (obAlloc size inc true s).2
  match (obAlloc size inc true s).1 with
  | .fail => .ok (endCommand .ok nullHandle 0 0 s1)
  | .done => .ok ((s1.withWork { s1.work with symIdx := .wr 0, bitsSet := .wr 0 }).withPhase .encFetch)

/-- `ENC.FETCH` (R184). -/
def encFetch (s : State) : Except Fault State := do
  needs s [.symIdx]
  let i := s.work.symIdx.value
  if i = s.inLen then .ok (s.withPhase .encPad)
  else
    let b ← inRead s i
    let e ← romAt s b.toNat
    let i' ← fit s.sizeW (i + 1)
    .ok ((s.withWork { s.work with
      curCode := .wr e.code, curLen := .wr e.length, bitsLeft := .wr e.length, symIdx := .wr i' }).withPhase .encPack)

/-- The unwind (R188). -/
def encUnwind (s : State) : Except Fault State := do
  let s1 ← obRelease s
  .ok (endCommand .ok nullHandle 0 0 s1)

/-- `ENC.PACK` once byte `idx` of the region is writable (R185): OR the chunk in, advance the counters. -/
def encPackByte (idx : Nat) (s : State) : Except Fault State := do
  needs s [.obPtr]
  let pos := s.work.bitsSet.value
  let left := s.work.bitsLeft.value.toNat
  let n := packCount pos left
  let old ← outRead s idx
  let s1 ← outWrite s idx (old ||| packByte s.work.curCode.value.toNat pos left)
  let pos' ← fit s.sizeW (pos + n)
  let len' ← fit s.sizeW (idx + 1)
  .ok ((s1.withWork { s1.work with
    obLen := .wr len', bitsSet := .wr pos', bitsLeft := .wr (BitVec.ofNat 6 (left - n)) }).withPhase
      (if left - n = 0 then .encFetch else .encPack))

/-- `ENC.PACK` (R185): one pass; a denied growth unwinds (R188). -/
def encPack (s : State) : Except Fault State := do
  needs s [.bitsSet, .bitsLeft, .curCode]
  let idx := s.work.bitsSet.value / 8
  match ← obEnsure idx s with
  | (.fail, s1) => encUnwind s1
  | (.done, s1) => encPackByte idx s1

/-- `ENC.PAD` (R186): the low bits of a partly filled last byte become 1, and the command completes. -/
def encPad (s : State) : Except Fault State := do
  needs s [.bitsSet, .obPtr, .obCap]
  let pos := s.work.bitsSet.value
  let len ← fit s.sizeW ((pos + 7) / 8)
  if pos % 8 = 0 then .ok (endCommand .ok s.work.obPtr.value len s.work.obCap.value s)
  else
    let old ← outRead s (pos / 8)
    let s1 ← outWrite s (pos / 8) (old ||| padByte (pos % 8))
    .ok (endCommand .ok s.work.obPtr.value len s.work.obCap.value s1)

/-- ENC.ALLOC (R183). -/
def execEncAlloc (s : State) : Host.Outcome State Fault Refusal := ofRun (encAlloc s)

/-- ENC.FETCH (R184). -/
def execEncFetch (s : State) : Host.Outcome State Fault Refusal := ofRun (encFetch s)

/-- ENC.PACK (R185, R188). -/
def execEncPack (s : State) : Host.Outcome State Fault Refusal := ofRun (encPack s)

/-- ENC.PAD (R186). -/
def execEncPad (s : State) : Host.Outcome State Fault Refusal := ofRun (encPad s)

end Sys2Proof.Machine
end

