-- ==== Sys2Proof/Machine/Commands.lean ====
section
/-! DEFINITION. The sequencer (R37, R38) and the three commands: PREWARM, ENCODE, DECODE (R142, R180, R210). -/

namespace Sys2Proof.Machine

open Sys2Proof

/-- The step of PHASE `BUILD` (R142): the build, then the end of `PREWARM` (R143, R144). -/
def prewarmBuild (s : State) : State :=
  match (dtBuild s).1 with
  | .done => endCommand .ok nullHandle 0 0 (dtBuild s).2
  | .fail => endCommand .outOfMemory nullHandle 0 0 (dtBuild s).2

/-- `DEC.EMIT` of the entry the scan found (R210). -/
def emitFound (s : State) : Except Fault State := do
  needs s [.scanK]
  decEmit s.work.scanK.value.toNat s

/-- One step of CORE: the micro-operation that PHASE names (R37, R38). -/
def coreStep (s : State) : Except Fault State :=
  match s.phase with
  | .idle => .error .idleWhileBusy
  | .build => .ok (prewarmBuild s)
  | .encAlloc => encAlloc s
  | .encFetch => encFetch s
  | .encPack => encPack s
  | .encPad => encPad s
  | .decInit => .ok (decInit s)
  | .decStart => decStart s
  | .scanning => decScan s
  | .emit => emitFound s
  | .term => decTerm s

/-- The steps of CORE until the command has ended, at most `n` of them. -/
def untilIdle : Nat → State → Except Fault State
  | 0, s => if s.busy then .error .noProgress else .ok s
  | n + 1, s =>
    if s.busy then
      match coreStep s with
      | .ok s1 => untilIdle n s1
      | .error f => .error f
    else .ok s

/-- A bound on the steps of a command: no table whose lengths are at least 1 needs more (R192, R232; log entry 22). -/
def stepBound (s : State) : Nat := 64 * s.inLen + 8

/-- The commands (R91). -/
inductive Command where
  | prewarm
  | encode
  | decode
  deriving DecidableEq, Repr

/-- The range condition (R96): `IN_LEN` for every command, `PREWARM` among them (R96 makes no exception; log entry 16),
and `OUT_CAP` for a `DECODE` with a supplied region. -/
def inRange (c : Command) (s : State) : Bool :=
  decide (s.inLen < 2 ^ (s.sizeW - 6)) &&
    match c with
    | .prewarm => true
    | .encode => true
    | .decode => s.outPtr == nullHandle || decide (s.outCap < 2 ^ (s.sizeW - 1))

/-- HOST's duty for the input region (R302). -/
def inputDuty (c : Command) (s : State) : Bool :=
  match c with
  | .prewarm => true
  | .encode => s.inPtr == nullHandle || inputReadable s
  | .decode => inputReadable s

/-- HOST's duty for a supplied output region (R304). -/
def outputDuty (c : Command) (s : State) : Bool :=
  match c with
  | .prewarm => true
  | .encode => true
  | .decode =>
    s.outPtr == nullHandle ||
      match regionGet s.mem s.outPtr with
      | some r => r.granted && decide (r.cap = s.outCap)
      | none => false

/-- HOST's duty that input and supplied output differ (R305). -/
def apartDuty (c : Command) (s : State) : Bool :=
  match c with
  | .prewarm => true
  | .encode => true
  | .decode => s.outPtr == nullHandle || s.outPtr != s.inPtr

/-- Why a command is refused at the write of `CMD`, in the order of R263; none when it is accepted. -/
def admission (c : Command) (s : State) : Option Refusal :=
  if !inRange c s then some .outOfRange
  else if s.busy then some .commandWhileBusy
  else if !inputDuty c s then some .inputRegion
  else if !outputDuty c s then some .outputRegion
  else if !apartDuty c s then some .sameRegion
  else none

/-- The state after the acceptance of a command (R40). A `PREWARM` with the table built (R143) and an `ENCODE` of
nothing (R181) end at once. -/
def accept (c : Command) (s : State) : State :=
  match c with
  | .prewarm =>
    if s.dtValid then endCommand .ok nullHandle 0 0 (beginCommand .idle s) else beginCommand .build s
  | .encode =>
    if s.inPtr = nullHandle ∨ s.inLen = 0 then endCommand .ok nullHandle 0 0 (beginCommand .idle s)
    else beginCommand .encAlloc s
  | .decode => beginCommand .decInit s

/-- A command as one transition, from its acceptance to its end (R6 (a)). -/
def runCommand (c : Command) (s : State) : Host.Outcome State Fault Refusal :=
  match admission c s with
  | some r => .refused r
  | none => ofRun (untilIdle (stepBound s) (accept c s))

/-- PREWARM (R142). -/
def execPrewarm (s : State) : Host.Outcome State Fault Refusal :=
  runCommand .prewarm s

/-- ENCODE (R180). -/
def execEncode (s : State) : Host.Outcome State Fault Refusal := runCommand .encode s

/-- DECODE (R210). -/
def execDecode (s : State) : Host.Outcome State Fault Refusal := runCommand .decode s

end Sys2Proof.Machine
end

