-- ==== Sys2Proof/Machine/Results.lean ====
section
/-! DEFINITION. The result kinds as the two ends of a command (R94, R256, R257): KIND.OK, KIND.OutOfMemory,
KIND.InitializationFailed, KIND.Internal. -/

namespace Sys2Proof.Machine

open Sys2Proof

/-- KIND.OK: `complete(kind = OK, ptr, len, cap)` (R257). -/
def execKindOk (ptr len cap : Nat) (s : State) : Host.Outcome State Fault Refusal :=
  if wordsFit s [ptr, len, cap] then .next (endCommand .ok ptr len cap s) else .refused .tooWide

/-- KIND.OutOfMemory: `raise OutOfMemory(ptr, len, cap)` (R256). -/
def execKindOutOfMemory (ptr len cap : Nat) (s : State) : Host.Outcome State Fault Refusal :=
  if wordsFit s [ptr, len, cap] then .next (endCommand .outOfMemory ptr len cap s) else .refused .tooWide

/-- KIND.InitializationFailed: `raise InitializationFailed(ptr, len, cap)` (R256). -/
def execKindInitializationFailed (ptr len cap : Nat) (s : State) : Host.Outcome State Fault Refusal :=
  if wordsFit s [ptr, len, cap] then .next (endCommand .initializationFailed ptr len cap s) else .refused .tooWide

/-- KIND.Internal: `raise Internal(ptr, len, cap)` (R256). -/
def execKindInternal (ptr len cap : Nat) (s : State) : Host.Outcome State Fault Refusal :=
  if wordsFit s [ptr, len, cap] then .next (endCommand .internal ptr len cap s) else .refused .tooWide

end Sys2Proof.Machine
end

