-- ==== Sys2Proof/Machine/Dispatch.lean ====
section
/-! DEFINITION. One arm per constructor: the meaning of each instruction. -/

namespace Sys2Proof.Machine

open Sys2Proof

def exec (i : Instr) (s : State) : Host.Outcome State Fault Refusal :=
  match i with
  | .prewarm => Sys2Proof.Machine.execPrewarm s
  | .encode => Sys2Proof.Machine.execEncode s
  | .decode => Sys2Proof.Machine.execDecode s
  | .areqAlloc size zero => Sys2Proof.Machine.execAreqAlloc size zero s
  | .areqGrow handle size zero => Sys2Proof.Machine.execAreqGrow handle size zero s
  | .areqRelease handle => Sys2Proof.Machine.execAreqRelease handle s
  | .areqAllocTable => Sys2Proof.Machine.execAreqAllocTable s
  | .kindOk ptr len cap => Sys2Proof.Machine.execKindOk ptr len cap s
  | .kindOutOfMemory ptr len cap => Sys2Proof.Machine.execKindOutOfMemory ptr len cap s
  | .kindInitializationFailed ptr len cap => Sys2Proof.Machine.execKindInitializationFailed ptr len cap s
  | .kindInternal ptr len cap => Sys2Proof.Machine.execKindInternal ptr len cap s
  | .romLookup sym => Sys2Proof.Machine.execRomLookup sym s
  | .dtBuild => Sys2Proof.Machine.execDtBuild s
  | .obAlloc size inc zero => Sys2Proof.Machine.execObAlloc size inc zero s
  | .obAdopt handle cap inc zero => Sys2Proof.Machine.execObAdopt handle cap inc zero s
  | .obEnsure idx => Sys2Proof.Machine.execObEnsure idx s
  | .obGrow => Sys2Proof.Machine.execObGrow s
  | .obRelease => Sys2Proof.Machine.execObRelease s
  | .encAlloc => Sys2Proof.Machine.execEncAlloc s
  | .encFetch => Sys2Proof.Machine.execEncFetch s
  | .encPack => Sys2Proof.Machine.execEncPack s
  | .encPad => Sys2Proof.Machine.execEncPad s
  | .decInit => Sys2Proof.Machine.execDecInit s
  | .decStart => Sys2Proof.Machine.execDecStart s
  | .decScan => Sys2Proof.Machine.execDecScan s
  | .decWindow len => Sys2Proof.Machine.execDecWindow len s
  | .decEmit k => Sys2Proof.Machine.execDecEmit k s
  | .decTerm => Sys2Proof.Machine.execDecTerm s
  | .huffcode0 => Sys2Proof.Machine.execHuffcode0 s
  | .huffcode1 => Sys2Proof.Machine.execHuffcode1 s
  | .huffcode2 => Sys2Proof.Machine.execHuffcode2 s
  | .huffcode3 => Sys2Proof.Machine.execHuffcode3 s
  | .huffcode4 => Sys2Proof.Machine.execHuffcode4 s
  | .huffcode5 => Sys2Proof.Machine.execHuffcode5 s
  | .huffcode6 => Sys2Proof.Machine.execHuffcode6 s
  | .huffcode7 => Sys2Proof.Machine.execHuffcode7 s
  | .huffcode8 => Sys2Proof.Machine.execHuffcode8 s
  | .huffcode9 => Sys2Proof.Machine.execHuffcode9 s
  | .huffcode10 => Sys2Proof.Machine.execHuffcode10 s
  | .huffcode11 => Sys2Proof.Machine.execHuffcode11 s
  | .huffcode12 => Sys2Proof.Machine.execHuffcode12 s
  | .huffcode13 => Sys2Proof.Machine.execHuffcode13 s
  | .huffcode14 => Sys2Proof.Machine.execHuffcode14 s
  | .huffcode15 => Sys2Proof.Machine.execHuffcode15 s
  | .huffcode16 => Sys2Proof.Machine.execHuffcode16 s
  | .huffcode17 => Sys2Proof.Machine.execHuffcode17 s
  | .huffcode18 => Sys2Proof.Machine.execHuffcode18 s
  | .huffcode19 => Sys2Proof.Machine.execHuffcode19 s
  | .huffcode20 => Sys2Proof.Machine.execHuffcode20 s
  | .huffcode21 => Sys2Proof.Machine.execHuffcode21 s
  | .huffcode22 => Sys2Proof.Machine.execHuffcode22 s
  | .huffcode23 => Sys2Proof.Machine.execHuffcode23 s
  | .huffcode24 => Sys2Proof.Machine.execHuffcode24 s
  | .huffcode25 => Sys2Proof.Machine.execHuffcode25 s
  | .huffcode26 => Sys2Proof.Machine.execHuffcode26 s
  | .huffcode27 => Sys2Proof.Machine.execHuffcode27 s
  | .huffcode28 => Sys2Proof.Machine.execHuffcode28 s
  | .huffcode29 => Sys2Proof.Machine.execHuffcode29 s
  | .huffcode30 => Sys2Proof.Machine.execHuffcode30 s
  | .huffcode31 => Sys2Proof.Machine.execHuffcode31 s
  | .huffcode32 => Sys2Proof.Machine.execHuffcode32 s
  | .huffcode33 => Sys2Proof.Machine.execHuffcode33 s
  | .huffcode34 => Sys2Proof.Machine.execHuffcode34 s
  | .huffcode35 => Sys2Proof.Machine.execHuffcode35 s
  | .huffcode36 => Sys2Proof.Machine.execHuffcode36 s
  | .huffcode37 => Sys2Proof.Machine.execHuffcode37 s
  | .huffcode38 => Sys2Proof.Machine.execHuffcode38 s
  | .huffcode39 => Sys2Proof.Machine.execHuffcode39 s
  | .huffcode40 => Sys2Proof.Machine.execHuffcode40 s
  | .huffcode41 => Sys2Proof.Machine.execHuffcode41 s
  | .huffcode42 => Sys2Proof.Machine.execHuffcode42 s
  | .huffcode43 => Sys2Proof.Machine.execHuffcode43 s
  | .huffcode44 => Sys2Proof.Machine.execHuffcode44 s
  | .huffcode45 => Sys2Proof.Machine.execHuffcode45 s
  | .huffcode46 => Sys2Proof.Machine.execHuffcode46 s
  | .huffcode47 => Sys2Proof.Machine.execHuffcode47 s
  | .huffcode48 => Sys2Proof.Machine.execHuffcode48 s
  | .huffcode49 => Sys2Proof.Machine.execHuffcode49 s
  | .huffcode50 => Sys2Proof.Machine.execHuffcode50 s
  | .huffcode51 => Sys2Proof.Machine.execHuffcode51 s
  | .huffcode52 => Sys2Proof.Machine.execHuffcode52 s
  | .huffcode53 => Sys2Proof.Machine.execHuffcode53 s
  | .huffcode54 => Sys2Proof.Machine.execHuffcode54 s
  | .huffcode55 => Sys2Proof.Machine.execHuffcode55 s
  | .huffcode56 => Sys2Proof.Machine.execHuffcode56 s
  | .huffcode57 => Sys2Proof.Machine.execHuffcode57 s
  | .huffcode58 => Sys2Proof.Machine.execHuffcode58 s
  | .huffcode59 => Sys2Proof.Machine.execHuffcode59 s
  | .huffcode60 => Sys2Proof.Machine.execHuffcode60 s
  | .huffcode61 => Sys2Proof.Machine.execHuffcode61 s
  | .huffcode62 => Sys2Proof.Machine.execHuffcode62 s
  | .huffcode63 => Sys2Proof.Machine.execHuffcode63 s
  | .huffcode64 => Sys2Proof.Machine.execHuffcode64 s
  | .huffcode65 => Sys2Proof.Machine.execHuffcode65 s
  | .huffcode66 => Sys2Proof.Machine.execHuffcode66 s
  | .huffcode67 => Sys2Proof.Machine.execHuffcode67 s
  | .huffcode68 => Sys2Proof.Machine.execHuffcode68 s
  | .huffcode69 => Sys2Proof.Machine.execHuffcode69 s
  | .huffcode70 => Sys2Proof.Machine.execHuffcode70 s
  | .huffcode71 => Sys2Proof.Machine.execHuffcode71 s
  | .huffcode72 => Sys2Proof.Machine.execHuffcode72 s
  | .huffcode73 => Sys2Proof.Machine.execHuffcode73 s
  | .huffcode74 => Sys2Proof.Machine.execHuffcode74 s
  | .huffcode75 => Sys2Proof.Machine.execHuffcode75 s
  | .huffcode76 => Sys2Proof.Machine.execHuffcode76 s
  | .huffcode77 => Sys2Proof.Machine.execHuffcode77 s
  | .huffcode78 => Sys2Proof.Machine.execHuffcode78 s
  | .huffcode79 => Sys2Proof.Machine.execHuffcode79 s
  | .huffcode80 => Sys2Proof.Machine.execHuffcode80 s
  | .huffcode81 => Sys2Proof.Machine.execHuffcode81 s
  | .huffcode82 => Sys2Proof.Machine.execHuffcode82 s
  | .huffcode83 => Sys2Proof.Machine.execHuffcode83 s
  | .huffcode84 => Sys2Proof.Machine.execHuffcode84 s
  | .huffcode85 => Sys2Proof.Machine.execHuffcode85 s
  | .huffcode86 => Sys2Proof.Machine.execHuffcode86 s
  | .huffcode87 => Sys2Proof.Machine.execHuffcode87 s
  | .huffcode88 => Sys2Proof.Machine.execHuffcode88 s
  | .huffcode89 => Sys2Proof.Machine.execHuffcode89 s
  | .huffcode90 => Sys2Proof.Machine.execHuffcode90 s
  | .huffcode91 => Sys2Proof.Machine.execHuffcode91 s
  | .huffcode92 => Sys2Proof.Machine.execHuffcode92 s
  | .huffcode93 => Sys2Proof.Machine.execHuffcode93 s
  | .huffcode94 => Sys2Proof.Machine.execHuffcode94 s
  | .huffcode95 => Sys2Proof.Machine.execHuffcode95 s
  | .huffcode96 => Sys2Proof.Machine.execHuffcode96 s
  | .huffcode97 => Sys2Proof.Machine.execHuffcode97 s
  | .huffcode98 => Sys2Proof.Machine.execHuffcode98 s
  | .huffcode99 => Sys2Proof.Machine.execHuffcode99 s
  | .huffcode100 => Sys2Proof.Machine.execHuffcode100 s
  | .huffcode101 => Sys2Proof.Machine.execHuffcode101 s
  | .huffcode102 => Sys2Proof.Machine.execHuffcode102 s
  | .huffcode103 => Sys2Proof.Machine.execHuffcode103 s
  | .huffcode104 => Sys2Proof.Machine.execHuffcode104 s
  | .huffcode105 => Sys2Proof.Machine.execHuffcode105 s
  | .huffcode106 => Sys2Proof.Machine.execHuffcode106 s
  | .huffcode107 => Sys2Proof.Machine.execHuffcode107 s
  | .huffcode108 => Sys2Proof.Machine.execHuffcode108 s
  | .huffcode109 => Sys2Proof.Machine.execHuffcode109 s
  | .huffcode110 => Sys2Proof.Machine.execHuffcode110 s
  | .huffcode111 => Sys2Proof.Machine.execHuffcode111 s
  | .huffcode112 => Sys2Proof.Machine.execHuffcode112 s
  | .huffcode113 => Sys2Proof.Machine.execHuffcode113 s
  | .huffcode114 => Sys2Proof.Machine.execHuffcode114 s
  | .huffcode115 => Sys2Proof.Machine.execHuffcode115 s
  | .huffcode116 => Sys2Proof.Machine.execHuffcode116 s
  | .huffcode117 => Sys2Proof.Machine.execHuffcode117 s
  | .huffcode118 => Sys2Proof.Machine.execHuffcode118 s
  | .huffcode119 => Sys2Proof.Machine.execHuffcode119 s
  | .huffcode120 => Sys2Proof.Machine.execHuffcode120 s
  | .huffcode121 => Sys2Proof.Machine.execHuffcode121 s
  | .huffcode122 => Sys2Proof.Machine.execHuffcode122 s
  | .huffcode123 => Sys2Proof.Machine.execHuffcode123 s
  | .huffcode124 => Sys2Proof.Machine.execHuffcode124 s
  | .huffcode125 => Sys2Proof.Machine.execHuffcode125 s
  | .huffcode126 => Sys2Proof.Machine.execHuffcode126 s
  | .huffcode127 => Sys2Proof.Machine.execHuffcode127 s
  | .huffcode128 => Sys2Proof.Machine.execHuffcode128 s
  | .huffcode129 => Sys2Proof.Machine.execHuffcode129 s
  | .huffcode130 => Sys2Proof.Machine.execHuffcode130 s
  | .huffcode131 => Sys2Proof.Machine.execHuffcode131 s
  | .huffcode132 => Sys2Proof.Machine.execHuffcode132 s
  | .huffcode133 => Sys2Proof.Machine.execHuffcode133 s
  | .huffcode134 => Sys2Proof.Machine.execHuffcode134 s
  | .huffcode135 => Sys2Proof.Machine.execHuffcode135 s
  | .huffcode136 => Sys2Proof.Machine.execHuffcode136 s
  | .huffcode137 => Sys2Proof.Machine.execHuffcode137 s
  | .huffcode138 => Sys2Proof.Machine.execHuffcode138 s
  | .huffcode139 => Sys2Proof.Machine.execHuffcode139 s
  | .huffcode140 => Sys2Proof.Machine.execHuffcode140 s
  | .huffcode141 => Sys2Proof.Machine.execHuffcode141 s
  | .huffcode142 => Sys2Proof.Machine.execHuffcode142 s
  | .huffcode143 => Sys2Proof.Machine.execHuffcode143 s
  | .huffcode144 => Sys2Proof.Machine.execHuffcode144 s
  | .huffcode145 => Sys2Proof.Machine.execHuffcode145 s
  | .huffcode146 => Sys2Proof.Machine.execHuffcode146 s
  | .huffcode147 => Sys2Proof.Machine.execHuffcode147 s
  | .huffcode148 => Sys2Proof.Machine.execHuffcode148 s
  | .huffcode149 => Sys2Proof.Machine.execHuffcode149 s
  | .huffcode150 => Sys2Proof.Machine.execHuffcode150 s
  | .huffcode151 => Sys2Proof.Machine.execHuffcode151 s
  | .huffcode152 => Sys2Proof.Machine.execHuffcode152 s
  | .huffcode153 => Sys2Proof.Machine.execHuffcode153 s
  | .huffcode154 => Sys2Proof.Machine.execHuffcode154 s
  | .huffcode155 => Sys2Proof.Machine.execHuffcode155 s
  | .huffcode156 => Sys2Proof.Machine.execHuffcode156 s
  | .huffcode157 => Sys2Proof.Machine.execHuffcode157 s
  | .huffcode158 => Sys2Proof.Machine.execHuffcode158 s
  | .huffcode159 => Sys2Proof.Machine.execHuffcode159 s
  | .huffcode160 => Sys2Proof.Machine.execHuffcode160 s
  | .huffcode161 => Sys2Proof.Machine.execHuffcode161 s
  | .huffcode162 => Sys2Proof.Machine.execHuffcode162 s
  | .huffcode163 => Sys2Proof.Machine.execHuffcode163 s
  | .huffcode164 => Sys2Proof.Machine.execHuffcode164 s
  | .huffcode165 => Sys2Proof.Machine.execHuffcode165 s
  | .huffcode166 => Sys2Proof.Machine.execHuffcode166 s
  | .huffcode167 => Sys2Proof.Machine.execHuffcode167 s
  | .huffcode168 => Sys2Proof.Machine.execHuffcode168 s
  | .huffcode169 => Sys2Proof.Machine.execHuffcode169 s
  | .huffcode170 => Sys2Proof.Machine.execHuffcode170 s
  | .huffcode171 => Sys2Proof.Machine.execHuffcode171 s
  | .huffcode172 => Sys2Proof.Machine.execHuffcode172 s
  | .huffcode173 => Sys2Proof.Machine.execHuffcode173 s
  | .huffcode174 => Sys2Proof.Machine.execHuffcode174 s
  | .huffcode175 => Sys2Proof.Machine.execHuffcode175 s
  | .huffcode176 => Sys2Proof.Machine.execHuffcode176 s
  | .huffcode177 => Sys2Proof.Machine.execHuffcode177 s
  | .huffcode178 => Sys2Proof.Machine.execHuffcode178 s
  | .huffcode179 => Sys2Proof.Machine.execHuffcode179 s
  | .huffcode180 => Sys2Proof.Machine.execHuffcode180 s
  | .huffcode181 => Sys2Proof.Machine.execHuffcode181 s
  | .huffcode182 => Sys2Proof.Machine.execHuffcode182 s
  | .huffcode183 => Sys2Proof.Machine.execHuffcode183 s
  | .huffcode184 => Sys2Proof.Machine.execHuffcode184 s
  | .huffcode185 => Sys2Proof.Machine.execHuffcode185 s
  | .huffcode186 => Sys2Proof.Machine.execHuffcode186 s
  | .huffcode187 => Sys2Proof.Machine.execHuffcode187 s
  | .huffcode188 => Sys2Proof.Machine.execHuffcode188 s
  | .huffcode189 => Sys2Proof.Machine.execHuffcode189 s
  | .huffcode190 => Sys2Proof.Machine.execHuffcode190 s
  | .huffcode191 => Sys2Proof.Machine.execHuffcode191 s
  | .huffcode192 => Sys2Proof.Machine.execHuffcode192 s
  | .huffcode193 => Sys2Proof.Machine.execHuffcode193 s
  | .huffcode194 => Sys2Proof.Machine.execHuffcode194 s
  | .huffcode195 => Sys2Proof.Machine.execHuffcode195 s
  | .huffcode196 => Sys2Proof.Machine.execHuffcode196 s
  | .huffcode197 => Sys2Proof.Machine.execHuffcode197 s
  | .huffcode198 => Sys2Proof.Machine.execHuffcode198 s
  | .huffcode199 => Sys2Proof.Machine.execHuffcode199 s
  | .huffcode200 => Sys2Proof.Machine.execHuffcode200 s
  | .huffcode201 => Sys2Proof.Machine.execHuffcode201 s
  | .huffcode202 => Sys2Proof.Machine.execHuffcode202 s
  | .huffcode203 => Sys2Proof.Machine.execHuffcode203 s
  | .huffcode204 => Sys2Proof.Machine.execHuffcode204 s
  | .huffcode205 => Sys2Proof.Machine.execHuffcode205 s
  | .huffcode206 => Sys2Proof.Machine.execHuffcode206 s
  | .huffcode207 => Sys2Proof.Machine.execHuffcode207 s
  | .huffcode208 => Sys2Proof.Machine.execHuffcode208 s
  | .huffcode209 => Sys2Proof.Machine.execHuffcode209 s
  | .huffcode210 => Sys2Proof.Machine.execHuffcode210 s
  | .huffcode211 => Sys2Proof.Machine.execHuffcode211 s
  | .huffcode212 => Sys2Proof.Machine.execHuffcode212 s
  | .huffcode213 => Sys2Proof.Machine.execHuffcode213 s
  | .huffcode214 => Sys2Proof.Machine.execHuffcode214 s
  | .huffcode215 => Sys2Proof.Machine.execHuffcode215 s
  | .huffcode216 => Sys2Proof.Machine.execHuffcode216 s
  | .huffcode217 => Sys2Proof.Machine.execHuffcode217 s
  | .huffcode218 => Sys2Proof.Machine.execHuffcode218 s
  | .huffcode219 => Sys2Proof.Machine.execHuffcode219 s
  | .huffcode220 => Sys2Proof.Machine.execHuffcode220 s
  | .huffcode221 => Sys2Proof.Machine.execHuffcode221 s
  | .huffcode222 => Sys2Proof.Machine.execHuffcode222 s
  | .huffcode223 => Sys2Proof.Machine.execHuffcode223 s
  | .huffcode224 => Sys2Proof.Machine.execHuffcode224 s
  | .huffcode225 => Sys2Proof.Machine.execHuffcode225 s
  | .huffcode226 => Sys2Proof.Machine.execHuffcode226 s
  | .huffcode227 => Sys2Proof.Machine.execHuffcode227 s
  | .huffcode228 => Sys2Proof.Machine.execHuffcode228 s
  | .huffcode229 => Sys2Proof.Machine.execHuffcode229 s
  | .huffcode230 => Sys2Proof.Machine.execHuffcode230 s
  | .huffcode231 => Sys2Proof.Machine.execHuffcode231 s
  | .huffcode232 => Sys2Proof.Machine.execHuffcode232 s
  | .huffcode233 => Sys2Proof.Machine.execHuffcode233 s
  | .huffcode234 => Sys2Proof.Machine.execHuffcode234 s
  | .huffcode235 => Sys2Proof.Machine.execHuffcode235 s
  | .huffcode236 => Sys2Proof.Machine.execHuffcode236 s
  | .huffcode237 => Sys2Proof.Machine.execHuffcode237 s
  | .huffcode238 => Sys2Proof.Machine.execHuffcode238 s
  | .huffcode239 => Sys2Proof.Machine.execHuffcode239 s
  | .huffcode240 => Sys2Proof.Machine.execHuffcode240 s
  | .huffcode241 => Sys2Proof.Machine.execHuffcode241 s
  | .huffcode242 => Sys2Proof.Machine.execHuffcode242 s
  | .huffcode243 => Sys2Proof.Machine.execHuffcode243 s
  | .huffcode244 => Sys2Proof.Machine.execHuffcode244 s
  | .huffcode245 => Sys2Proof.Machine.execHuffcode245 s
  | .huffcode246 => Sys2Proof.Machine.execHuffcode246 s
  | .huffcode247 => Sys2Proof.Machine.execHuffcode247 s
  | .huffcode248 => Sys2Proof.Machine.execHuffcode248 s
  | .huffcode249 => Sys2Proof.Machine.execHuffcode249 s
  | .huffcode250 => Sys2Proof.Machine.execHuffcode250 s
  | .huffcode251 => Sys2Proof.Machine.execHuffcode251 s
  | .huffcode252 => Sys2Proof.Machine.execHuffcode252 s
  | .huffcode253 => Sys2Proof.Machine.execHuffcode253 s
  | .huffcode254 => Sys2Proof.Machine.execHuffcode254 s
  | .huffcode255 => Sys2Proof.Machine.execHuffcode255 s
  | .huffcode256 => Sys2Proof.Machine.execHuffcode256 s

end Sys2Proof.Machine
end

