-- ==== Sys2Proof/Machine/Fetch.lean ====
section
/-! DEFINITION. What the next step runs: the next action of HOST (R40 to R50, R290), or the next step of CORE (R37). -/

namespace Sys2Proof.Machine

open Sys2Proof

/-! ### CORE -/

/-- The micro-operation that PHASE names (R37, R38). -/
def coreInstr (s : State) : Except Fault Instr :=
  match s.phase with
  | .idle => .error .idleWhileBusy
  | .build => .ok .dtBuild
  | .encAlloc => .ok .encAlloc
  | .encFetch => .ok .encFetch
  | .encPack => .ok .encPack
  | .encPad => .ok .encPad
  | .decInit => .ok .decInit
  | .decStart => .ok .decStart
  | .scanning => .ok .decScan
  | .emit =>
    match needs s [.scanK] with
    | .ok _ => .ok (.decEmit s.work.scanK.value)
    | .error f => .error f
  | .term => .ok .decTerm

/-- The end of `PREWARM` after its build (R142): `complete`, or `raise OutOfMemory` (R144). -/
def prewarmEnd (o : Host.Outcome State Fault Refusal) : Host.Outcome State Fault Refusal :=
  match o with
  | .next s =>
    match s.ret with
    | .ob .done => exec (.kindOk nullHandle 0 0) s
    | _ => exec (.kindOutOfMemory nullHandle 0 0) s
  | .fault f => .fault f
  | .refused r => .refused r

/-- One step of CORE: the micro-operation PHASE names; in PHASE `BUILD` the end of `PREWARM` with it. -/
def stepCore (s : State) : Host.Outcome State Fault Refusal :=
  match coreInstr s with
  | .error f => .fault f
  | .ok i => if s.phase = .build then prewarmEnd (exec i s) else exec i s

/-- The code instruction of the entry at index `k` of `DT`; `DEC.SCAN` where the entry names no symbol of its own. -/
def codeAt (s : State) (k : Nat) : Instr :=
  match s.dt[k]? with
  | none => .decScan
  | some e =>
    if symbolIndex s.dt e.symbol.toNat = some k then (codeInstr e.symbol.toNat).getD .decScan else .decScan

/-- The instruction at the current bit offset of the stream (R113, R214): the code found there; `DEC.SCAN` where
there is none, which then ends the loop. -/
def streamInstr (s : State) : Instr :=
  match scanResult s with
  | .found k => codeAt s k
  | .eos k => codeAt s k
  | _ => .decScan

/-- One pass of the decoder's loop (R210): the instruction at the current bit offset. -/
def stepCode (s : State) : Host.Outcome State Fault Refusal :=
  match scanReady s with
  | .error f => .fault f
  | .ok _ => exec (streamInstr s) s

/-! ### HOST -/

/-- The command a word of `CMD` names. -/
def commandOf : Instr → Option Command
  | .prewarm => some .prewarm
  | .encode => some .encode
  | .decode => some .decode
  | _ => none

/-- A write of `CMD` (R40): refused, or the command is accepted and its steps are still to come. -/
def hostCommand (w : Nat) (s : State) : Host.Outcome State Fault Refusal :=
  match decodeCmd w with
  | .error e => .refused (.reserved e)
  | .ok i =>
    match commandOf i with
    | none => .refused .illFormed
    | some c =>
      match admission c s with
      | some r => .refused r
      | none => .next (accept c s)

/-- HOST's write of word `v` to an operand register, which leads to `t`: only while `BUSY` = 0 (R301), and only of a
word of `SIZE_W` bits (R8). -/
def hostOperand (v : Nat) (t s : State) : Host.Outcome State Fault Refusal :=
  if s.busy then .refused .operandWhileBusy
  else if wordsFit s [v] then .next t
  else .refused .tooWide

/-- HOST writes a register (R40 to R50, R301). -/
def hostWrite (reg : Nat) (v : Nat) (s : State) : Host.Outcome State Fault Refusal :=
  match reg with
  | 0 => hostCommand v s
  | 2 => hostOperand v { s with inPtr := v } s
  | 3 => hostOperand v { s with inLen := v } s
  | 4 => hostOperand v { s with outPtr := v } s
  | 5 => hostOperand v { s with outCap := v } s
  | n => if n ≤ 9 then .refused (.readOnlyRegister n) else .refused (.noSuchRegister n)

/-- A result register: its content, and while `BUSY` = 1 a free value (R50, U12). -/
def readResult (v : Nat) (s : State) : State :=
  if s.busy then (s.withHostData (Config.freeBits s.sizeW s.freeNext).toNat).useFree 1 else s.withHostData v

/-- HOST reads a register (R40 to R50). -/
def hostRead (reg : Nat) (s : State) : Host.Outcome State Fault Refusal :=
  match reg with
  | 0 => .next (s.withHostData 0)
  | 1 => .next (s.withHostData (statusWord s))
  | 2 => .next (s.withHostData s.inPtr)
  | 3 => .next (s.withHostData s.inLen)
  | 4 => .next (s.withHostData s.outPtr)
  | 5 => .next (s.withHostData s.outCap)
  | 6 => .next (readResult s.resKind.toNat s)
  | 7 => .next (readResult s.resPtr s)
  | 8 => .next (readResult s.resLen s)
  | 9 => .next (readResult s.resCap s)
  | n => .refused (.noSuchRegister n)

/-- Whether PHASE is one of the decoder's (R37). -/
def decoding : Phase → Bool
  | .decInit => true
  | .decStart => true
  | .scanning => true
  | .emit => true
  | .term => true
  | .idle => false
  | .build => false
  | .encAlloc => false
  | .encFetch => false
  | .encPack => false
  | .encPad => false

/-- The region is the output region of the command in progress (R75, R302, R304). -/
def outputInUse (s : State) (h : Nat) : Bool :=
  s.busy && ((s.work.obPtr.written && s.work.obPtr.value == h) || (decoding s.phase && s.outPtr == h))

/-- The region is the input region of the command in progress (R75, R302). That a `DECODE` with `IN_LEN` = 0 has one too,
the region `IN_PTR` names, is a DESIGN CHOICE (R302 speaks of `IN_LEN` ≥ 1 only; log entry 21). -/
def inputInUse (s : State) (h : Nat) : Bool := s.busy && s.phase != .build && s.inPtr == h

/-- HOST takes no step on these regions while `BUSY` = 1 (R75). -/
def inUse (s : State) (h : Nat) : Bool := outputInUse s h || inputInUse s h

/-- HOST writes a byte of a region (R75, R302, U18). -/
def hostPoke (h : Nat) (off : Nat) (b : Byte) (s : State) : Host.Outcome State Fault Refusal :=
  if inUse s h then .refused (.regionInUse h)
  else
    match writeByte s.mem h off b with
    | some m => .next (s.withMem m)
    | none => .refused (.deadRegion h)

/-- HOST reads a byte of a region (R75, R302, U18). -/
def hostPeek (h : Nat) (off : Nat) (s : State) : Host.Outcome State Fault Refusal :=
  if inUse s h then .refused (.regionInUse h)
  else
    match readByte s.mem h off with
    | some b => .next (s.withHostData b.toNat)
    | none => .refused (.deadRegion h)

/-- HOST provides a region of its own, of content nobody has written (R60). -/
def hostProvide (h cap : Nat) (s : State) : Host.Outcome State Fault Refusal :=
  if h = nullHandle || isLive s.mem h then .refused (.handleTaken h)
  else if !wordsFit s [h, cap] then .refused .tooWide
  else
    .next ((s.withMem (regionPut s.mem
      { handle := h, cap := cap, granted := false, seed := s.freeNext, cells := [] })).useFree 1)

/-- HOST presents a request to ALLOCATOR (R116 (c), R307). While `BUSY` = 1 ALLOCATOR acts only inside a transaction
CORE starts (R75), so then the request is refused. -/
def hostRequest (op : BitVec 3) (args : List Nat) (s : State) : Host.Outcome State Fault Refusal :=
  match decode (.areq op args) with
  | .error e => .refused (.reserved e)
  | .ok i => if s.busy then .refused .requestWhileBusy else exec i s

/-- Reset (R55, R290, R291): `SIZE_W`, `ROM` and the regions stay; refused while `BUSY` = 1 (R56, R292). -/
def hostReset (s : State) : Host.Outcome State Fault Refusal :=
  if s.busy then .refused .resetWhileBusy
  else
    .next { State.reset with
      sizeW := s.sizeW, rom := s.rom, mem := s.mem, answers := s.answers, requests := s.requests, hostData := s.hostData,
      agenda := s.agenda, freeNext := s.freeNext }

/-! ### The next step -/

/-- One action, taken off the agenda. -/
def runAction (a : Action) (s : State) : Host.Outcome State Fault Refusal :=
  match a with
  | .write reg v => hostWrite reg v s
  | .read reg => hostRead reg s
  | .poll => .next (s.withHostData (statusWord s))
  | .call w =>
    match decodeCmd w with
    | .error e => .refused (.reserved e)
    | .ok i => exec i s
  | .request op args => hostRequest op args s
  | .provide h cap => hostProvide h cap s
  | .poke h off b => hostPoke h off b s
  | .peek h off => hostPeek h off s
  | .reset => hostReset s
  | .core => if s.busy then stepCore s else .refused .noCommand
  | .code => if s.busy && s.phase == .scanning then stepCode s else .refused .noCommand
  | .micro i =>
    if !s.busy then .refused .noCommand
    else if i.format = .micro && i.wellFormed then exec i s
    else .refused .illFormed
  | .finish code ptr len cap => if s.busy then exec (decodeKind code ptr len cap) s else .refused .noCommand

/-- The next step: the next action of the agenda; while HOST polls or has nothing to do, CORE moves if a command is
in progress; an idle engine with an idle HOST waits (R262, R271). -/
def stepAgenda (s : State) : Host.Outcome State Fault Refusal :=
  match s.agenda with
  | [] => if s.busy then stepCore s else .next s
  | .poll :: rest => if s.busy then stepCore s else runAction .poll { s with agenda := rest }
  | a :: rest => runAction a { s with agenda := rest }

/-! ### Placing a word of the opcode table where the next step takes it (log entry 9) -/

/-- Grants to hand out where none is listed (R293: ALLOCATOR can answer from the first command on). -/
def someGrants (s : State) : List Answer :=
  if s.answers = [] then [.grant 0x1000, .grant 0x2000, .grant 0x3000] else s.answers

/-- The argument words of a request, all zero. -/
def zeroArguments (op : Nat) : List Nat :=
  match op with
  | 1 => [0, 0]
  | 2 => [0, 0, 0]
  | 3 => [0]
  | _ => []

/-- The bytes that hold the code of `e` from stream bit 0 on, the bits after it 0. -/
def codeCells (e : CodeEntry) : List Host.Cell :=
  let nb := (e.length.toNat + 7) / 8
  let v := e.code.toNat <<< (8 * nb - e.length.toNat)
  (List.range nb).map fun i => (i, BitVec.ofNat 8 (v >>> (8 * (nb - 1 - i))))

/-- A decode in progress at the start of an input that holds the code of `e`. -/
def placeCode (e : CodeEntry) (s : State) : State :=
  let nb := (e.length.toNat + 7) / 8
  let hin := (freshHandle s.sizeW s.mem).getD 1
  let m1 := regionPut s.mem
    { handle := hin, cap := nb, granted := true, seed := s.freeNext, cells := codeCells e }
  let hout := (freshHandle s.sizeW m1).getD 2
  { s with
    dt := if s.dtValid then s.dt else sortByLength s.rom
    dtValid := true
    busy := true
    phase := .scanning
    inPtr := hin
    inLen := nb
    outPtr := nullHandle
    mem := regionPut m1 { handle := hout, cap := 2 * nb, granted := true, seed := s.freeNext + 1, cells := [] }
    work := obRegisters hout (2 * nb) decInc false
      { s.work with bitsDone := .wr 0, bitsTotal := .wr (8 * nb), outPos := .wr 0 }
    agenda := .code :: s.agenda
    freeNext := s.freeNext + 2 }

/-- The state in which the next step runs the instruction of a row's bits: for a command, HOST's call of it with no
command in progress; for a request, HOST's request, likewise; for a result kind, a command in progress that ends with it; for
a code, a decode in progress that stands at it. -/
def placeWord (s : State) (nbits w : Nat) : State :=
  match (decodeTableWord nbits w).map Instr.format with
  | some .areq =>
    { s with busy := false, phase := .idle, agenda := .request (BitVec.ofNat 3 w) (zeroArguments w) :: s.agenda }
  | some .resKind =>
    { s with busy := true, phase := if s.busy then s.phase else .build,
             agenda := .finish (BitVec.ofNat 2 w) 0 0 0 :: s.agenda }
  | some .huffcode =>
    match rowCode nbits w with
    | some e => placeCode e s
    | none => s
  | _ =>
    { s with busy := false, phase := .idle, answers := someGrants s,
             agenda := .call (if nbits = 64 then w else 0) :: s.agenda }

end Sys2Proof.Machine
end

