-- ==== Sys2Proof/Machine/Step.lean ====
section
/-! DEFINITION. The step of the machine, and the placing of an instruction where the next step takes it. -/

namespace Sys2Proof.Machine

open Sys2Proof

/-- One step (`stepAgenda`). -/
def step : State → Host.Outcome State Fault Refusal := stepAgenda

/-- The state whose next step runs the instruction of the row bits `w` (`placeWord`). -/
def State.withFetchWord (s : State) (nbits w : Nat) : State := placeWord s nbits w

end Sys2Proof.Machine
end

