-- ==== Sys2Proof/Safety.lean ====
section
/-! DEFINITION. What claims are about: well-formed tables, sound states, a command in progress, the end of a command, and what the two
codecs compute as functions of bytes. -/

namespace Sys2Proof.Machine

open Sys2Proof

/-! ### Tables (R100 to R104) -/

/-- `WF1` (R100): 257 entries, and entry `s` is that of symbol `s`. -/
def Wf1 (rom : List CodeEntry) : Prop :=
  rom.length = nsym ∧ ∀ (s : Nat) (e : CodeEntry), rom[s]? = some e → e.symbol.toNat = s

/-- `WF2` (R101): lengths from 5 to 30. -/
def Wf2 (rom : List CodeEntry) : Prop := ∀ e ∈ rom, 5 ≤ e.length.toNat ∧ e.length.toNat ≤ 30

/-- `WF3` (R102): a code fits its length. -/
def Wf3 (rom : List CodeEntry) : Prop := ∀ e ∈ rom, e.code.toNat < 2 ^ e.length.toNat

/-- `WF4` (R103): no code begins with another. -/
def Wf4 (rom : List CodeEntry) : Prop :=
  ∀ (s t : Nat) (e f : CodeEntry), s ≠ t → rom[s]? = some e → rom[t]? = some f → e.length.toNat ≤ f.length.toNat →
    f.code.toNat >>> (f.length.toNat - e.length.toNat) ≠ e.code.toNat

/-- `WF5` (R104): no code of at most 7 bits but that of symbol 256 is all ones. -/
def Wf5 (rom : List CodeEntry) : Prop :=
  ∀ e ∈ rom, e.symbol.toNat ≤ 255 → e.length.toNat ≤ 7 → e.code.toNat ≠ 2 ^ e.length.toNat - 1

/-- `WF(ROM)`: the rules R100 to R104 together. -/
structure RomWf (rom : List CodeEntry) : Prop where
  wf1 : Wf1 rom
  wf2 : Wf2 rom
  wf3 : Wf3 rom
  wf4 : Wf4 rom
  wf5 : Wf5 rom

/-- The order R141 demands of a table: by length, and by symbol where lengths are equal. -/
def InDtOrder (d : List CodeEntry) : Prop :=
  d.Pairwise fun a b =>
    a.length.toNat < b.length.toNat ∨ (a.length = b.length ∧ a.symbol.toNat < b.symbol.toNat)

/-! ### States -/

/-- A built `DT` is the sorted copy of `ROM` (R24). -/
def DtSound (s : State) : Prop := s.dtValid = true → s.dt = sortByLength s.rom

/-- `BUSY` = 0 exactly in PHASE `IDLE` (R37: only `PHASE = IDLE` is visible, as `BUSY = 0`). -/
def BusyPhase (s : State) : Prop := s.busy = false ↔ s.phase = .idle

/-- The working registers of `SIZE_W` bits (R26 to R28). -/
def workWords (w : Work) : List Nat :=
  [w.symIdx.value, w.bitsSet.value, w.bitsDone.value, w.bitsTotal.value, w.outPos.value, w.obPtr.value, w.obCap.value,
   w.obLen.value, w.obInc.value]

/-- The operand and result registers of `SIZE_W` bits (R42 to R45, R47 to R49). -/
def hostWords (s : State) : List Nat := [s.inPtr, s.inLen, s.outPtr, s.outCap, s.resPtr, s.resLen, s.resCap]

/-- Every handle and capacity fits `w` bits (R8, R61). -/
abbrev MemFits (w : Nat) (m : Memory) : Prop := ∀ r ∈ m, r.handle < 2 ^ w ∧ r.cap < 2 ^ w

/-- Every register, handle and capacity fits `SIZE_W` bits (R8, R61). From `SIZE_W` = 11 on R96 keeps its promise that
no counter of an admitted command exceeds its register (a growth adds 1000 bytes; log entry 1). -/
structure Fits (s : State) : Prop where
  width : 11 ≤ s.sizeW
  host : ∀ v ∈ hostWords s, v < 2 ^ s.sizeW
  work : ∀ v ∈ workWords s.work, v < 2 ^ s.sizeW
  mem : MemFits s.sizeW s.mem

/-- A state in which the rules hold: `WF(ROM)`, a sound `DT`, canonical regions, and every word in its register. -/
structure Sound (s : State) : Prop where
  rom : RomWf s.rom
  dt : DtSound s
  mem : Memory.wf s.mem
  fits : Fits s

/-- A byte of a region; 0 where R62 gives none. -/
def regionByte (m : Memory) (h : Nat) (i : Nat) : Byte := (readByte m h i).getD 0

/-- Input byte `i` of the command in the operand registers. -/
def inputByte (s : State) (i : Nat) : Byte := regionByte s.mem s.inPtr i

/-- The input region is live and holds `IN_LEN` bytes (R302). -/
def InputLive (s : State) : Prop := ∃ r, regionGet s.mem s.inPtr = some r ∧ s.inLen ≤ r.cap

/-- `ALLOCATOR` grants the next `n` requests, and a fresh handle exists. -/
def Grants (n : Nat) (s : State) : Prop :=
  n ≤ s.answers.length ∧ (∀ a ∈ s.answers, a ≠ .deny) ∧ s.mem.length + 1 < 2 ^ s.sizeW

/-! ### A command in progress -/

/-- The invariant of the output buffer registers (R29). -/
structure ObReady (s : State) : Prop where
  written : ∀ r ∈ [WName.obPtr, .obCap, .obLen, .obInc, .obZero], s.work.isWritten r = true
  notNull : s.work.obPtr.value ≠ nullHandle
  region : ∃ r, regionGet s.mem s.work.obPtr.value = some r ∧ r.granted = true ∧ r.cap = s.work.obCap.value
  len : s.work.obLen.value ≤ s.work.obCap.value

/-- Between two steps of an `ENCODE` that has its region (R29, R96, R171, R185). -/
structure EncReady (s : State) : Prop where
  ob : ObReady s
  inc : s.work.obInc.value = encInc
  zero : s.work.obZero.value = 1
  input : InputLive s
  apart : s.work.obPtr.value ≠ s.inPtr
  written : s.work.symIdx.written = true ∧ s.work.bitsSet.written = true
  index : s.work.symIdx.value ≤ s.inLen
  bits : s.work.bitsSet.value ≤ 30 * s.work.symIdx.value
  used : s.work.obLen.value = (s.work.bitsSet.value + 7) / 8
  cap : s.work.obCap.value ≤ cap0 s.inLen + 100 + s.work.bitsSet.value / 8

/-- A code is being packed (R184, R185). -/
structure Packing (s : State) : Prop where
  written : s.work.curCode.written = true ∧ s.work.bitsLeft.written = true
  left : 1 ≤ s.work.bitsLeft.value.toNat
  bits : s.work.bitsSet.value + s.work.bitsLeft.value.toNat ≤ 30 * s.work.symIdx.value

/-- The operands of an accepted `DECODE` (R302, R304, R305). -/
structure DecInput (s : State) : Prop where
  input : s.inLen = 0 ∨ InputLive s
  supplied : s.outPtr = nullHandle ∨
    (s.outPtr ≠ s.inPtr ∧ s.outCap < 2 ^ (s.sizeW - 1) ∧
      ∃ r, regionGet s.mem s.outPtr = some r ∧ r.granted = true ∧ r.cap = s.outCap)

/-- Between two steps of a `DECODE` that has its region (R29, R96, R171, R212, R218). -/
structure DecReady (s : State) : Prop where
  ob : ObReady s
  inc : s.work.obInc.value = decInc
  zero : s.work.obZero.value = 0
  built : s.dtValid = true
  input : s.inLen = 0 ∨ (InputLive s ∧ s.work.obPtr.value ≠ s.inPtr)
  written : s.work.bitsDone.written = true ∧ s.work.bitsTotal.written = true ∧ s.work.outPos.written = true
  total : s.work.bitsTotal.value = 8 * s.inLen
  done : s.work.bitsDone.value ≤ s.work.bitsTotal.value
  pos : 5 * s.work.outPos.value ≤ s.work.bitsDone.value
  len : s.work.obLen.value = s.work.outPos.value

/-- What holds between two steps of a command, PHASE by PHASE. -/
def PhaseInv (s : State) : Prop :=
  match s.phase with
  | .idle => False
  | .build => s.dtValid = false
  | .encAlloc => InputLive s ∧ s.inPtr ≠ nullHandle ∧ s.inLen ≠ 0
  | .encFetch => EncReady s
  | .encPack => EncReady s ∧ Packing s
  | .encPad => EncReady s ∧ s.work.symIdx.value = s.inLen
  | .decInit => DecInput s
  | .decStart => DecInput s ∧ s.dtValid = true
  | .scanning => DecReady s ∧ s.work.bitsDone.value < s.work.bitsTotal.value
  | .emit =>
    DecReady s ∧ s.work.scanK.written = true ∧
      ∃ e, s.dt[s.work.scanK.value.toNat]? = some e ∧ e.symbol.toNat ≤ 255 ∧
        s.work.bitsDone.value + e.length.toNat ≤ s.work.bitsTotal.value
  | .term => DecReady s

/-- A command in progress in a sound state, its `IN_LEN` in range (R96). -/
structure CommandInv (s : State) : Prop where
  sound : Sound s
  busy : s.busy = true
  range : s.inLen < 2 ^ (s.sizeW - 6)
  phase : PhaseInv s

/-- The table of R37: whether CORE may go from one PHASE to another in one step. -/
def phaseMove : Phase → Phase → Bool
  | .idle, p => p == .build || p == .encAlloc || p == .decInit || p == .idle
  | .build, p => p == .idle
  | .encAlloc, p => p == .encFetch || p == .idle
  | .encFetch, p => p == .encPack || p == .encPad
  | .encPack, p => p == .encPack || p == .encFetch || p == .idle
  | .encPad, p => p == .idle
  | .decInit, p => p == .decStart || p == .idle
  | .decStart, p => p == .scanning || p == .term || p == .idle
  | .scanning, p => p == .scanning || p == .emit || p == .term || p == .idle
  | .emit, p => p == .scanning || p == .term || p == .idle
  | .term, p => p == .idle

/-! ### The end of a command (R256, R257) -/

/-- `t` is `s` with a command ended: the result registers as given, PHASE `IDLE`, `BUSY` 0, every working register
unspecified, and everything else as in `s`. -/
def Ends (s t : State) (kind : BitVec 2) (ptr len cap : Nat) : Prop :=
  t = { s with resKind := kind, resPtr := ptr, resLen := len, resCap := cap, phase := .idle, busy := false,
               ret := .none, work := t.work, freeNext := t.freeNext } ∧
    ∀ r, t.work.isWritten r = false

/-- Every region but those under the handles listed is as before: live or not, its capacity, and each of its bytes. -/
def OthersKept (s t : State) (hs : List Nat) : Prop :=
  ∀ g, g ∉ hs → regionGet t.mem g = regionGet s.mem g ∧ ∀ i, readByte t.mem g i = readByte s.mem g i

/-- Every byte of memory but one is as before. -/
def OtherBytesKept (m m' : Memory) (h : Nat) (i : Nat) : Prop :=
  ∀ (g : Nat) (j : Nat), ¬(g = h ∧ j = i) → readByte m' g j = readByte m g j

/-! ### What the codecs compute -/

/-- The entry of an input byte. -/
def codeOf (rom : List CodeEntry) (b : Byte) : CodeEntry := (rom[b.toNat]?).getD default

/-- The stream position of the code of input byte `n`: the sum of the lengths before it (R190 `p_n`). -/
def codePos (rom : List CodeEntry) (b : Nat → Byte) : Nat → Nat
  | 0 => 0
  | n + 1 => codePos rom b n + (codeOf rom (b n)).length.toNat

/-- `t` reports the encoding of the input of `s` (R110, R172, R187, R190, R196): as many bytes as the codes fill, the code of each
input byte at its place, most significant bit first, ones to the end of the last byte, zeros to the capacity, which is
`cap0` plus 100 for each growth needed. -/
structure Encoded (s t : State) : Prop where
  len : t.resLen = (codePos s.rom (inputByte s) s.inLen + 7) / 8
  cap : t.resCap = cap0 s.inLen + 100 * ((t.resLen - cap0 s.inLen + 99) / 100)
  codes : ∀ i, i < s.inLen → streamBits (regionByte t.mem t.resPtr) (codePos s.rom (inputByte s) i)
    (codeOf s.rom (inputByte s i)).length.toNat = (codeOf s.rom (inputByte s i)).code.toNat
  padding : ∀ p, codePos s.rom (inputByte s) s.inLen ≤ p → p < 8 * t.resLen →
    streamBit (regionByte t.mem t.resPtr) p = true
  slack : ∀ i, t.resLen ≤ i → i < t.resCap → readByte t.mem t.resPtr i = some 0

/-- The first entry whose code the stream has at position `p` of `8 * n` bits (R224). -/
def entryAt (rom : List CodeEntry) (b : Nat → Byte) (n p : Nat) : Option CodeEntry :=
  rom.find? fun e => decide (e.length.toNat ≤ 8 * n - p) && streamBits b p e.length.toNat == e.code.toNat

/-- The parse of R224 from position `p`, at most `fuel` symbols. -/
def parseFrom (rom : List CodeEntry) (b : Nat → Byte) (n : Nat) : Nat → Nat → List Nat
  | 0, _ => []
  | fuel + 1, p =>
    if 8 * n ≤ p then []
    else
      match entryAt rom b n p with
      | none => []
      | some e =>
        if e.symbol.toNat = eosSymbol then [] else e.symbol.toNat :: parseFrom rom b n fuel (p + e.length.toNat)

/-- The parse of R224 of `n` bytes: a code has at least one bit, so `8 * n` symbols are enough. -/
def parse (rom : List CodeEntry) (b : Nat → Byte) (n : Nat) : List Nat := parseFrom rom b n (8 * n) 0

/-- The region `t` reports holds the first `RES_LEN` symbols of the parse of `s`'s input, each a byte (R218, R223, R224). -/
def HoldsParse (s t : State) : Prop :=
  ∀ i, i < t.resLen → ∃ v, (parse s.rom (inputByte s) s.inLen)[i]? = some v ∧ v ≤ 255 ∧
    readByte t.mem t.resPtr i = some (BitVec.ofNat 8 v)

/-- The stream bits from the current bit offset to the end of the input, 0 past the input. -/
def bitsAhead (s : State) : List Bool :=
  (List.range (s.work.bitsTotal.value - s.work.bitsDone.value)).map fun j =>
    streamBit (inZero s) (s.work.bitsDone.value + j)

end Sys2Proof.Machine
end

