-- ==== Sys2Proof/Certificates/Slice0/Obligations.lean ====
section
/-! DEFINITION. The statements for the provers, each about the machine; the docstring of each names the rules it rests on. -/

open Sys2Proof Sys2Proof.Machine

/-! ### Encodings -/

/-- Every well-formed instruction whose row has an encoding is encoded in the space of its row, and decoding the words gives it
back, whatever its operands (R91, R94, R97, R108). -/
def Obligations.DecodeOfEncodeIsTheInstruction : Prop :=
  ∀ i : Instr, i.wellFormed = true → i.format ≠ .micro →
    ∃ w, encode i = some w ∧ w.format = i.format ∧ decode w = .ok i

/-- The other direction: the words of an instruction are the only ones that decode to it. -/
def Obligations.EncodeOfDecodeIsTheWords : Prop :=
  ∀ (w : EncWord) (i : Instr), decode w = .ok i → encode i = some w

/-- Words written out from 30_encoding.md: the command words (R91), the request ops (R97), the kinds (R94) and codes of R108. That a request's argument words follow its op in R97's
order, and that a kind carries the three other result words, are the model's choices (log entries 13 and 14). -/
def Obligations.SpecWordsDecode : Prop :=
  decode (.cmd 0x1) = .ok .prewarm ∧
  decode (.cmd 0x2) = .ok .encode ∧
  decode (.cmd 0x3) = .ok .decode ∧
  decode (.areq 1 [4, 1]) = .ok (.areqAlloc 4 true) ∧
  decode (.areq 2 [0x1000, 104, 1]) = .ok (.areqGrow 0x1000 104 true) ∧
  decode (.areq 3 [0x1000]) = .ok (.areqRelease 0x1000) ∧
  decode (.areq 4 []) = .ok .areqAllocTable ∧
  decode (.kind 0 0x1000 1 4) = .ok (.kindOk 0x1000 1 4) ∧
  decode (.kind 1 0 0 0) = .ok (.kindOutOfMemory 0 0 0) ∧
  decode (.kind 2 0 0 0) = .ok (.kindInitializationFailed 0 0 0) ∧
  decode (.kind 3 0 0 0) = .ok (.kindInternal 0 0 0) ∧
  decode (.code [false, false, false, false, false]) = .ok .huffcode48 ∧
  decode (.code [false, false, false, true, true]) = .ok .huffcode97 ∧
  decode (.code [false, true, false, true, false, false]) = .ok .huffcode32 ∧
  decode (.code [true, true, true, true, true, false, false, false]) = .ok .huffcode38 ∧
  decode (.code [true, true, true, true]) = .error .noCode ∧
  decode (.code [false, false, false, true, true, true]) = .error .trailing ∧
  decode (.code (List.replicate 30 true)) = .ok .huffcode256

/-- The command word, at whatever `SIZE_W`: 1, 2 and 3 are the commands; 0 and every word with a reserved bit set are no command, and HOST's write of one to
`CMD` is refused whether or not a command is in progress (R91, R114 (a)); request ops 0 and 5 to 7 are no request (R97, R114 (c)). -/
def Obligations.CommandWordsAndReservedWords : Prop :=
  (∀ w : Nat, decodeCmd w =
    if w = 1 then .ok .prewarm else if w = 2 then .ok .encode else if w = 3 then .ok .decode
    else if w = 0 then .error .reservedOp else .error .reservedBits) ∧
  (∀ (w : Nat) (s : State), w ≠ 1 → w ≠ 2 → w ≠ 3 → ∃ e, hostWrite 0 w s = .refused (.reserved e)) ∧
  (∀ (op : BitVec 3) (args : List Nat), op = 0 ∨ 5 ≤ op.toNat → decodeAreq op args = .error .reservedOp)

/-- The 47-bit entry word: symbol in bits 46 to 38, length in 37 to 32, code in 31 to 0, and nothing else (R98). -/
def Obligations.EntryWordHoldsItsFields : Prop :=
  (∀ e : CodeEntry, e.toWord.extractLsb' 38 9 = e.symbol ∧ e.toWord.extractLsb' 32 6 = e.length ∧
    e.toWord.extractLsb' 0 32 = e.code ∧ CodeEntry.ofWord e.toWord = e) ∧
  ∀ w : BitVec 47, (CodeEntry.ofWord w).toWord = w

/-- In a well-formed table: entries of equal length have different codes, so a different order of equal lengths gives the decoder's scan the same
entry; at most one entry's code begins any bit string; and fewer than 5 remaining bits end the scan (R106). -/
def Obligations.AtMostOneCodeBeginsABitString : Prop :=
  ∀ rom : List CodeEntry, RomWf rom →
    (∀ e ∈ rom, ∀ f ∈ rom, e ≠ f → e.length = f.length → e.code ≠ f.code) ∧
    (∀ e ∈ rom, ∀ f ∈ rom, ∀ bits : List Bool, e.bits <+: bits → f.bits <+: bits → e = f) ∧
    (∀ (d d' : List CodeEntry) (b : Nat → Byte) (p remaining k : Nat), d.Perm rom → d'.Perm rom →
      d.Pairwise (fun x y => x.length.toNat ≤ y.length.toNat) →
      d'.Pairwise (fun x y => x.length.toNat ≤ y.length.toNat) →
      (scanFrom (window b p) remaining 0 d = .found k →
        ∃ k', scanFrom (window b p) remaining 0 d' = .found k' ∧ d'[k']? = d[k]?) ∧
      (scanFrom (window b p) remaining 0 d = .eos k →
        ∃ k', scanFrom (window b p) remaining 0 d' = .eos k' ∧ d'[k']? = d[k]?)) ∧
    (∀ (b : Nat → Byte) (p remaining : Nat), remaining < 5 →
      scanFrom (window b p) remaining 0 (sortByLength rom) = .short 0)

/-- The default contents are well formed, complete (Kraft sum 1) and canonical: in the order by length and symbol, each code is the one before plus
one, shifted left by the growth in length (R108). -/
def Obligations.DefaultTableIsCompleteAndCanonical : Prop :=
  RomWf romH2 ∧ (romH2.map fun e => 2 ^ (30 - e.length.toNat)).sum = 2 ^ 30 ∧
  (sortByLength romH2)[0]? = some { code := 0, length := 5, symbol := 48 } ∧
  ∀ (k : Nat) (e f : CodeEntry), (sortByLength romH2)[k]? = some e → (sortByLength romH2)[k + 1]? = some f →
    f.code.toNat = (e.code.toNat + 1) <<< (f.length.toNat - e.length.toNat)

/-! ### The tables -/

/-- ROM.LOOKUP returns the entry whose symbol is the operand, at every symbol from 0 to 256, and changes nothing else (R130, R131). -/
def Obligations.RomLookupReturnsTheEntryOfTheSymbol : Prop :=
  ∀ (s : State) (sym : BitVec 9), Wf1 s.rom → sym.toNat ≤ 256 →
    ∃ e, s.rom[sym.toNat]? = some e ∧ e.symbol = sym ∧ exec (.romLookup sym) s = .next { s with ret := .entry e }

/-- DT.BUILD with the table absent: one `ALLOC_TABLE`; granted, the sorted copy and `DT_VALID` are written in the same step and it returns `DONE`;
denied, it returns `FAIL` and leaves no trace (R140). With the table present it does nothing and returns `DONE` (the model's choice, log entry 17). -/
def Obligations.DtBuildWritesTheSortedCopy : Prop :=
  ∀ s : State,
    (s.dtValid = true → exec .dtBuild s = .next { s with ret := .ob .done }) ∧
    (s.dtValid = false → ∃ t, exec .dtBuild s = .next t ∧
      ((t.ret = .ob .fail ∧
          t = { s with answers := s.answers.tail, requests := .allocTable :: s.requests, ret := t.ret,
                       freeNext := t.freeNext }) ∨
        (t.ret = .ob .done ∧
          t = { s with dt := sortByLength s.rom, dtValid := true, answers := s.answers.tail,
                       requests := .allocTable :: s.requests, ret := t.ret, freeNext := t.freeNext })) ∧
      (∀ rest, s.answers = .deny :: rest → t.ret = .ob .fail) ∧
      (∀ h rest, s.answers = .grant h :: rest → t.ret = .ob .done))

/-- The sort: for entries in symbol order the result is a permutation of them in the order of R141, and it is the only one. -/
def Obligations.SortIsTheUniqueOrderByLengthThenSymbol : Prop :=
  ∀ t : List CodeEntry, t.Pairwise (fun a b => a.symbol.toNat < b.symbol.toNat) →
    (sortByLength t).Perm t ∧ InDtOrder (sortByLength t) ∧
    ∀ d : List CodeEntry, d.Perm t → InDtOrder d → d = sortByLength t

/-- What a build leaves, for a `ROM` with `WF1` (R146): (a) every entry is `ROM`'s entry of its symbol; (b) every symbol is at exactly one index;
(c) lengths do not fall, and with `WF2` the first is the smallest of `ROM` and at least 5 and the last the largest and at most 30;
(d) two builds from one `ROM` leave the same table. -/
def Obligations.BuiltTableHoldsTheRomEntries : Prop :=
  (∀ s t : State, Wf1 s.rom → s.dtValid = false → exec .dtBuild s = .next t → t.ret = .ob .done →
    t.dt.length = nsym ∧
    (∀ (k : Nat) (e : CodeEntry), t.dt[k]? = some e → s.rom[e.symbol.toNat]? = some e) ∧
    (∀ v : Nat, v ≤ 256 → ∃ k : Nat, (∃ e : CodeEntry, t.dt[k]? = some e ∧ e.symbol.toNat = v) ∧
      ∀ (j : Nat) (e : CodeEntry), t.dt[j]? = some e → e.symbol.toNat = v → j = k) ∧
    (∀ (j k : Nat) (e f : CodeEntry), j ≤ k → t.dt[j]? = some e → t.dt[k]? = some f →
      e.length.toNat ≤ f.length.toNat) ∧
    (Wf2 s.rom →
      (∃ e, t.dt[0]? = some e ∧ 5 ≤ e.length.toNat ∧ ∀ f ∈ s.rom, e.length.toNat ≤ f.length.toNat) ∧
      (∃ e, t.dt[256]? = some e ∧ e.length.toNat ≤ 30 ∧ ∀ f ∈ s.rom, f.length.toNat ≤ e.length.toNat))) ∧
  (∀ s s' t t' : State, s.rom = s'.rom → s.dtValid = false → s'.dtValid = false →
    exec .dtBuild s = .next t → exec .dtBuild s' = .next t' → t.ret = .ob .done → t'.ret = .ob .done → t.dt = t'.dt)

/-- Every step keeps a built `DT` the sorted copy of `ROM` (R24, R77). -/
def Obligations.StepKeepsDtSound : Prop := ∀ s t : State, DtSound s → step s = .next t → DtSound t

/-- No step writes `SIZE_W` or `ROM`; a built `DT` is never rebuilt or dropped but by a reset, which HOST's next action must be (R22, R24, R143, R291);
and only a step that presented `ALLOC_TABLE` can set `DT_VALID`. -/
def Obligations.RomAndBuiltTablePersist : Prop :=
  ∀ s t : State, step s = .next t →
    t.sizeW = s.sizeW ∧ t.rom = s.rom ∧
    (s.dtValid = true → (t.dtValid = true ∧ t.dt = s.dt) ∨ (s.agenda.head? = some .reset ∧ t.dtValid = false)) ∧
    (s.dtValid = false → t.dtValid = true → ∃ pre, t.requests = pre ++ s.requests ∧ Request.allocTable ∈ pre)

/-! ### Reset -/

/-- After reset: the values R55 states and the invariants the other statements use. That `SIZE_W` and `CODE_ROM` are the defaults of R8 and that no
region is live are the model's choices (log entries 1, 2 and 5); that no working register counts as written is log entry 3. -/
def Obligations.ResetStateIsAsStated : Prop :=
  State.reset.dtValid = false ∧ State.reset.busy = false ∧ State.reset.phase = .idle ∧
  State.reset.inPtr = 0 ∧ State.reset.inLen = 0 ∧ State.reset.outPtr = 0 ∧ State.reset.outCap = 0 ∧
  State.reset.resKind = 0 ∧ State.reset.resPtr = 0 ∧ State.reset.resLen = 0 ∧ State.reset.resCap = 0 ∧
  State.reset.sizeW = 64 ∧ State.reset.rom = romH2 ∧ State.reset.mem = [] ∧ (∀ r, State.reset.work.isWritten r = false) ∧
  Memory.wf State.reset.mem ∧ DtSound State.reset ∧ BusyPhase State.reset ∧ Sound State.reset

/-- The reset action of a platform: with no command in progress it leaves every register of R55 at its reset value, keeps `ROM`, makes no request (R55, R290, R291); while `BUSY` = 1
it is refused (R56, R292). That the regions, their handles and the answers to come stay as they are is the model's choice (log entry 23: R55 leaves regions to the platform), and so is that
the working registers, unspecified in R55, count as not written (log entry 3). -/
def Obligations.ResetActionRestoresTheResetValues : Prop :=
  ∀ (s : State) (rest : List Action),
    (s.busy = false → ∃ t, step { s with agenda := .reset :: rest } = .next t ∧
      t.rom = s.rom ∧ t.mem = s.mem ∧ t.requests = s.requests ∧ t.answers = s.answers ∧ t.agenda = rest ∧
      t.sizeW = s.sizeW ∧ t.dtValid = false ∧ t.busy = false ∧ t.phase = .idle ∧
      t.inPtr = 0 ∧ t.inLen = 0 ∧ t.outPtr = 0 ∧ t.outCap = 0 ∧
      t.resKind = 0 ∧ t.resPtr = 0 ∧ t.resLen = 0 ∧ t.resCap = 0 ∧ (∀ r, t.work.isWritten r = false)) ∧
    (s.busy = true → step { s with agenda := .reset :: rest } = .refused .resetWhileBusy)

/-! ### Invariants of every step -/

/-- Every step keeps the regions in canonical form: handles rising, none `NULL`, offsets rising and below the capacity (R60, R61); and it keeps every register, handle and
capacity within `SIZE_W` bits, for every `SIZE_W` from 11 on (R8, R61; log entry 1 on the 11). -/
def Obligations.StepKeepsMemoryCanonicalAndWordsInWidth : Prop :=
  (∀ s t : State, Memory.wf s.mem → step s = .next t → Memory.wf t.mem) ∧
  (∀ s t : State, Fits s → step s = .next t → Fits t)

/-- Every step keeps `BUSY` = 0 exactly in PHASE `IDLE` (R30, R37). -/
def Obligations.StepKeepsBusyWithPhase : Prop :=
  ∀ s t : State, BusyPhase s → step s = .next t → BusyPhase t

/-- CORE moves PHASE only as the table of R37 says, from every PHASE, and an accepted command leaves `IDLE` only to `BUILD`, `ENC_ALLOC` or `DEC_INIT`, or
stays there when it ends at once. -/
def Obligations.PhaseMovesOnlyAsTabled : Prop :=
  (∀ s t : State, coreStep s = .ok t → phaseMove s.phase t.phase = true) ∧
  (∀ (c : Command) (s : State), phaseMove .idle (accept c s).phase = true) ∧
  (∀ s : State, s.phase = .idle → coreStep s = .error .idleWhileBusy)

/-- A command in progress never stops: from every state in which its invariant holds, CORE's next step answers a state, and there the command has ended or
its invariant holds again (R29, R62, R68, R96, R171). -/
def Obligations.CommandInvIsKept : Prop :=
  ∀ s : State, CommandInv s →
    ∃ t, stepCore s = .next t ∧ Sound t ∧ ((t.busy = false ∧ t.phase = .idle) ∨ CommandInv t)

/-- A command that is admitted in a sound state starts with its invariant, or ends at once (R40, R142, R181, R302 to R305). -/
def Obligations.AcceptedCommandMeetsTheInvariant : Prop :=
  ∀ (c : Command) (s : State), Sound s → admission c s = none →
    CommandInv (accept c s) ∨ ((accept c s).busy = false ∧ (accept c s).phase = .idle)

/-- Every admitted command completes: whatever ALLOCATOR answers, it ends with `BUSY` = 0 and leaves the operand registers as they were (R38, R192, R232). -/
def Obligations.EveryAdmittedCommandCompletes : Prop :=
  ∀ s : State, Sound s →
    (∀ c : Command, admission c s = none → ∃ t, runCommand c s = .next t ∧ Sound t ∧ t.busy = false ∧ t.phase = .idle ∧
      t.inPtr = s.inPtr ∧ t.inLen = s.inLen ∧ t.outPtr = s.outPtr ∧ t.outCap = s.outCap ∧
      (∀ r, t.work.isWritten r = false)) ∧
    exec .prewarm s = runCommand .prewarm s ∧ exec .encode s = runCommand .encode s ∧
    exec .decode s = runCommand .decode s

/-- The two levels of R6 agree: where a command run as one transition answers a state, writing its word to `CMD` and letting CORE take its steps one by one
reaches exactly that state. -/
def Obligations.CommandIsTheCompositionOfItsSteps : Prop :=
  ∀ (s t : State) (w : Nat) (i : Instr), s.agenda = [] → decodeCmd w = .ok i → exec i s = .next t →
    ∃ k, Host.Core.run Sys2Proof.core k { s with agenda := [.write 0 w] } = .next t

/-- CORE's step runs the instruction that PHASE names: the step through the dispatch of instructions and the step of the sequencer are one function (R37, R38). -/
def Obligations.CoreStepRunsTheInstructionOfItsPhase : Prop :=
  ∀ s : State, stepCore s = ofRun (coreStep s)

/-- A step runs the decoded instruction: a command word HOST calls, a request HOST presents (refused while `BUSY` = 1, R75), a result kind and a micro-operation given to a command in
progress, and the micro-operation PHASE names (in PHASE `BUILD` followed by the end of `PREWARM`), with the action taken off the agenda around it. -/
def Obligations.StepRunsTheDecodedInstruction : Prop :=
  ∀ (s : State) (rest : List Action),
    (∀ (w : Nat) (i : Instr), decode (.cmd w) = .ok i →
      step { s with agenda := .call w :: rest } = exec i { s with agenda := rest }) ∧
    (∀ (op : BitVec 3) (args : List Nat) (i : Instr), decode (.areq op args) = .ok i →
      (s.busy = false → step { s with agenda := .request op args :: rest } = exec i { s with agenda := rest }) ∧
      (s.busy = true → step { s with agenda := .request op args :: rest } = .refused .requestWhileBusy)) ∧
    (∀ (code : BitVec 2) (ptr len cap : Nat) (i : Instr), s.busy = true → decode (.kind code ptr len cap) = .ok i →
      step { s with agenda := .finish code ptr len cap :: rest } = exec i { s with agenda := rest }) ∧
    (∀ i : Instr, s.busy = true → i.format = .micro → i.wellFormed = true →
      step { s with agenda := .micro i :: rest } = exec i { s with agenda := rest }) ∧
    (s.busy = true → s.phase = .scanning → scanReady s = .ok () →
      step { s with agenda := .code :: rest } = exec (streamInstr s) { s with agenda := rest }) ∧
    (∀ i : Instr, s.busy = true → coreInstr s = .ok i → s.phase ≠ .build →
      step { s with agenda := .core :: rest } = exec i { s with agenda := rest } ∧
      step { s with agenda := [] } = exec i { s with agenda := [] } ∧
      step { s with agenda := .poll :: rest } = exec i { s with agenda := .poll :: rest }) ∧
    (s.busy = true → s.phase = .build →
      step { s with agenda := [] } = prewarmEnd (exec .dtBuild { s with agenda := [] }))

/-- The instruction the decoder's loop finds at the current bit offset is the one the decoder of codes reads from the bits that follow; where they begin with no
code it is `DEC.SCAN`, which ends the loop (R113, R214, R215). -/
def Obligations.ScanFindsTheDecodedCode : Prop :=
  ∀ s : State, Sound s → scanReady s = .ok () →
    streamInstr s = (match decodeCode s.dt (bitsAhead s) with | .ok (i, _) => i | .error _ => .decScan) ∧
    (∀ i rest, decodeCode s.dt (bitsAhead s) = .ok (i, rest) → i.format = .huffcode ∧
      ∃ e ∈ s.rom, i.symbol? = some e.symbol.toNat ∧ bitsAhead s = e.bits ++ rest)

/-! ### Regions -/

/-- A byte of a region reads and writes exactly where the region is live and the offset below its capacity; it reads as last written, and a write leaves every other
byte, and which regions are live and how large, as they were (R60, R62, R73). HOST takes no step on the input and output region of a command in progress, a region supplied to a `DECODE`
among them from acceptance on: its reads and writes of their bytes are refused (R75, R302, R304; that a `DECODE` with `IN_LEN` = 0 has an input region is log entry 21). -/
def Obligations.BytesReadAsLastWritten : Prop :=
  (∀ (m : Memory) (h : Nat) (i : Nat), (readByte m h i).isSome = true ↔ ∃ r, regionGet m h = some r ∧ i < r.cap) ∧
  (∀ (m : Memory) (h : Nat) (i : Nat) (b : Byte),
    (writeByte m h i b).isSome = true ↔ ∃ r, regionGet m h = some r ∧ i < r.cap) ∧
  (∀ (m m' : Memory) (h : Nat) (i : Nat) (b : Byte), writeByte m h i b = some m' →
    readByte m' h i = some b ∧ OtherBytesKept m m' h i ∧
    ∀ g, (regionGet m' g).map (fun r => r.cap) = (regionGet m g).map (fun r => r.cap)) ∧
  ∀ (s : State) (h : Nat) (i : Nat) (b : Byte), s.busy = true →
    (s.inPtr = h ∧ s.phase ≠ .build) ∨ (s.work.obPtr.written = true ∧ s.work.obPtr.value = h) ∨
      (decoding s.phase = true ∧ s.outPtr = h) →
    hostPeek h i s = .refused (.regionInUse h) ∧ hostPoke h i b s = .refused (.regionInUse h)

/-- An access outside R62 is a fault of the run, never a value: the reads and writes of CORE, the fetch of the encoder, the write of the terminator. -/
def Obligations.AccessOutsideARegionFaults : Prop :=
  ∀ s : State,
    (∀ i, readByte s.mem s.inPtr i = none → inRead s i = .error (.access s.inPtr i)) ∧
    (∀ i, readByte s.mem s.work.obPtr.value i = none → outRead s i = .error (.access s.work.obPtr.value i)) ∧
    (∀ i b, readByte s.mem s.work.obPtr.value i = none → outWrite s i b = .error (.access s.work.obPtr.value i)) ∧
    (s.work.symIdx.written = true → s.work.symIdx.value ≠ s.inLen →
      readByte s.mem s.inPtr s.work.symIdx.value = none →
      exec .encFetch s = .fault (.access s.inPtr s.work.symIdx.value)) ∧
    (s.work.obPtr.written = true → s.work.obCap.written = true → s.work.outPos.written = true →
      s.work.outPos.value < s.work.obCap.value →
      readByte s.mem s.work.obPtr.value s.work.outPos.value = none →
      exec .decTerm s = .fault (.access s.work.obPtr.value s.work.outPos.value))

/-- A read of a working register that the command in progress has not written is a fault, named after a register that is not written (R25, U11): for each instruction, the registers it reads on every
path, and those it reads where it grows the region, writes to it, or ends the command; and a read of `DT` while `DT_VALID` = 0 is a fault too (R23, U5). (No instruction reads `CUR_LEN` or `OB_LEN`.) -/
def Obligations.UnwrittenRegisterReadFaults : Prop :=
  ∀ s : State,
    let faults := fun (i : Instr) => ∃ r, s.work.isWritten r = false ∧ exec i s = .fault (.unwrittenRegister r)
    let reads := fun (i : Instr) (rs : List WName) => ∀ x ∈ rs, s.work.isWritten x = false → faults i
    reads .encFetch [.symIdx] ∧
    reads .encPack [.bitsSet, .bitsLeft, .curCode, .obCap, .obPtr] ∧
    (s.work.obCap.value ≤ s.work.bitsSet.value / 8 → reads .encPack [.obInc, .obZero]) ∧
    reads .encPad [.bitsSet, .obPtr, .obCap] ∧
    reads .decScan [.bitsDone, .bitsTotal] ∧
    (∀ k, scanReady s = .ok () → scanResult s = .internal k → reads .decScan [.obPtr, .outPos, .obCap]) ∧
    (∀ len : BitVec 6, 1 ≤ len.toNat → len.toNat ≤ 32 → reads (.decWindow len) [.bitsDone]) ∧
    (∀ (k : BitVec 9) (e : CodeEntry), s.dtValid = true → s.dt[k.toNat]? = some e → e.symbol.toNat ≤ 255 →
      reads (.decEmit k) [.outPos, .obCap, .obPtr] ∧
      (s.work.outPos.value < s.work.obCap.value → reads (.decEmit k) [.bitsDone, .bitsTotal]) ∧
      (s.work.obCap.value ≤ s.work.outPos.value → reads (.decEmit k) [.obInc, .obZero])) ∧
    reads .decTerm [.outPos, .obCap, .obPtr] ∧
    (s.work.obCap.value ≤ s.work.outPos.value → reads .decTerm [.obInc, .obZero]) ∧
    (∀ idx, reads (.obEnsure idx) [.obCap] ∧
      (s.work.obCap.value ≤ idx → reads (.obEnsure idx) [.obPtr, .obInc, .obZero])) ∧
    reads .obGrow [.obPtr, .obCap, .obInc, .obZero] ∧
    reads .obRelease [.obPtr] ∧
    (s.phase = .emit → s.work.scanK.written = false → stepCore s = .fault (.unwrittenRegister .scanK)) ∧
    (s.dtValid = false →
      (∀ k, exec (.decEmit k) s = .fault .dtAbsent) ∧
      (∀ (i : Instr) (n : Nat), i.symbol? = some n → exec i s = .fault .dtAbsent) ∧
      (s.work.bitsDone.written = true → s.work.bitsTotal.written = true → exec .decScan s = .fault .dtAbsent))

/-! ### The allocator interface -/

/-- AREQ.ALLOC of a size that fits its register: denied, the regions are as before; granted, the handle is not `NULL` and named no live region, the region exists with the capacity
asked for, of zeros if `zero`, and every other region is untouched. A listed denial denies, and every legal handle can be granted (R161, R164 (b)). A wider size is no word of this
machine and is refused (R8; log entry 19). -/
def Obligations.AllocRequestGrantsAFreshRegion : Prop :=
  ∀ (size : Nat) (zero : Bool) (s : State),
    (size < 2 ^ s.sizeW → ∃ t, exec (.areqAlloc size zero) s = .next t ∧
      t = { s with mem := t.mem, answers := s.answers.tail, requests := .alloc size zero :: s.requests, ret := t.ret,
                   freeNext := t.freeNext } ∧
      ((t.ret = .answer none ∧ t.mem = s.mem) ∨
        ∃ g, t.ret = .answer (some g) ∧ g < 2 ^ s.sizeW ∧ g ≠ nullHandle ∧ isLive s.mem g = false ∧
          (∃ r, regionGet t.mem g = some r ∧ r.cap = size ∧ r.granted = true) ∧
          (zero = true → ∀ i, i < size → readByte t.mem g i = some 0) ∧
          OthersKept s t [g]) ∧
      (∀ rest, s.answers = .deny :: rest → t.ret = .answer none) ∧
      (∀ h rest, s.answers = .grant h :: rest → h < 2 ^ s.sizeW → h ≠ nullHandle → isLive s.mem h = false →
        t.ret = .answer (some h))) ∧
    (2 ^ s.sizeW ≤ size → exec (.areqAlloc size zero) s = .refused .tooWide)

/-- AREQ.GROW of a live region to more than its capacity: denied, the regions are as before; granted, the handle is the old one or named no live region, the region has
the new capacity and the old bytes, the added bytes are zeros if `zero`, the old handle is dead if it changed, and every other region is untouched (R162). The request is issued only so (R162): that it is
refused for a dead handle or a size not above the capacity is the model's choice (log entry 18), and so is that a region HOST provided is grown like a granted one and counts as granted (log entry 32). -/
def Obligations.GrowRequestKeepsTheBytes : Prop :=
  (∀ (h size : Nat) (zero : Bool) (s : State) (r : Region), Memory.wf s.mem → regionGet s.mem h = some r →
    r.cap < size → size < 2 ^ s.sizeW → ∃ t, exec (.areqGrow h size zero) s = .next t ∧
      t = { s with mem := t.mem, answers := s.answers.tail, requests := .grow h size zero :: s.requests,
                   ret := t.ret, freeNext := t.freeNext } ∧
      ((t.ret = .answer none ∧ t.mem = s.mem) ∨
        ∃ g, t.ret = .answer (some g) ∧ g ≠ nullHandle ∧ (g = h ∨ (g < 2 ^ s.sizeW ∧ isLive s.mem g = false)) ∧
          (∃ r', regionGet t.mem g = some r' ∧ r'.cap = size ∧ r'.granted = true) ∧
          (∀ i, i < r.cap → readByte t.mem g i = readByte s.mem h i) ∧
          (zero = true → ∀ i, r.cap ≤ i → i < size → readByte t.mem g i = some 0) ∧
          (g ≠ h → isLive t.mem h = false) ∧
          OthersKept s t [g, h]) ∧
      (∀ rest, s.answers = .deny :: rest → t.ret = .answer none) ∧
      (∀ g rest, s.answers = .grant g :: rest → g < 2 ^ s.sizeW → g ≠ nullHandle → isLive s.mem g = false →
        t.ret = .answer (some g)) ∧
      (∀ rest, s.answers = .grant h :: rest → t.ret = .answer (some h))) ∧
  (∀ (h size : Nat) (zero : Bool) (s : State), isLive s.mem h = false →
    exec (.areqGrow h size zero) s = .refused (.deadRegion h)) ∧
  (∀ (h size : Nat) (zero : Bool) (s : State) (r : Region), regionGet s.mem h = some r → size ≤ r.cap →
    exec (.areqGrow h size zero) s = .refused .growSize) ∧
  (∀ (h size : Nat) (zero : Bool) (s : State) (r : Region), regionGet s.mem h = some r → r.cap < size →
    2 ^ s.sizeW ≤ size → exec (.areqGrow h size zero) s = .refused .tooWide)

/-- AREQ.RELEASE of a live region: it always succeeds, takes no answer, makes the region dead, and touches no other region (R163). That the request is refused for a
dead handle is the model's choice (log entry 18), and so is that a region HOST provided may be released (log entry 32). -/
def Obligations.ReleaseRequestMakesTheRegionDead : Prop :=
  (∀ (h : Nat) (s : State), isLive s.mem h = true → ∃ t, exec (.areqRelease h) s = .next t ∧
    t = { s with mem := t.mem, requests := .release h :: s.requests, ret := .none } ∧
    isLive t.mem h = false ∧ OthersKept s t [h]) ∧
  (∀ (h : Nat) (s : State), isLive s.mem h = false → exec (.areqRelease h) s = .refused (.deadRegion h))

/-- AREQ.ALLOC_TABLE is answered `GRANT` or `DENY`, without a handle, and changes no region and no table (R97, R140). -/
def Obligations.TableRequestIsAnswered : Prop :=
  ∀ s : State, ∃ t, exec .areqAllocTable s = .next t ∧
    t = { s with answers := s.answers.tail, requests := .allocTable :: s.requests, ret := t.ret, freeNext := t.freeNext } ∧
    (t.ret = .table true ∨ t.ret = .table false) ∧
    (∀ rest, s.answers = .deny :: rest → t.ret = .table false) ∧
    (∀ h rest, s.answers = .grant h :: rest → t.ret = .table true)

/-! ### The output buffer controller -/

/-- OB.ALLOC: granted, the five registers are written, the region is as asked for, and `DONE` is returned; denied, `FAIL`, with `OB_PTR`, `OB_CAP` and `OB_LEN` left open
(any values, U15) and every other working register as it was (R165; that a denial keeps `OB_INC` and `OB_ZERO` is log entry 24). -/
def Obligations.ObAllocObtainsARegion : Prop :=
  ∀ (size inc : Nat) (zero : Bool) (s : State), size < 2 ^ s.sizeW → inc < 2 ^ s.sizeW → ∃ t, exec (.obAlloc size inc zero) s = .next t ∧
    t = { s with mem := t.mem, answers := s.answers.tail, requests := .alloc size zero :: s.requests,
                 work := t.work, ret := t.ret, freeNext := t.freeNext } ∧
    ((t.ret = .ob .fail ∧ t.mem = s.mem ∧
        t.work = { s.work with obPtr := t.work.obPtr, obCap := t.work.obCap, obLen := t.work.obLen } ∧
        t.work.obPtr.written = false ∧ t.work.obCap.written = false ∧ t.work.obLen.written = false) ∨
      (t.ret = .ob .done ∧ ∃ g, g < 2 ^ s.sizeW ∧ g ≠ nullHandle ∧ isLive s.mem g = false ∧
        t.work = { s.work with obPtr := .wr g, obCap := .wr size, obLen := .wr 0, obInc := .wr inc,
                               obZero := .wr (if zero then 1 else 0) } ∧
        (∃ r, regionGet t.mem g = some r ∧ r.cap = size ∧ r.granted = true) ∧
        (zero = true → ∀ i, i < size → readByte t.mem g i = some 0) ∧
        OthersKept s t [g])) ∧
    (∀ rest, s.answers = .deny :: rest → t.ret = .ob .fail) ∧
    (∀ h rest, s.answers = .grant h :: rest → h < 2 ^ s.sizeW → h ≠ nullHandle → isLive s.mem h = false →
      t.ret = .ob .done ∧ t.work.obPtr.value = h)

/-- OB.ADOPT writes the five registers, makes no request and touches no region (R166). -/
def Obligations.ObAdoptTakesTheSuppliedRegion : Prop :=
  ∀ (h cap inc : Nat) (zero : Bool) (s : State), h < 2 ^ s.sizeW → cap < 2 ^ s.sizeW → inc < 2 ^ s.sizeW → exec (.obAdopt h cap inc zero) s = .next { s with
    work := { s.work with obPtr := .wr h, obCap := .wr cap, obLen := .wr 0, obInc := .wr inc,
                          obZero := .wr (if zero then 1 else 0) },
    ret := .none }

/-- OB.ENSURE: an offset below the capacity is `DONE` with nothing changed; one at or past it is OB.GROW (R167). -/
def Obligations.ObEnsureGrowsAtOrPastTheCapacity : Prop :=
  ∀ (idx : Nat) (s : State), s.work.obCap.written = true →
    (idx < s.work.obCap.value → exec (.obEnsure idx) s = .next { s with ret := .ob .done }) ∧
    (s.work.obCap.value ≤ idx → exec (.obEnsure idx) s = exec .obGrow s)

/-- OB.GROW: one request for `OB_CAP + OB_INC` bytes; granted, `OB_PTR` and `OB_CAP` are updated, bytes below the old capacity are kept and, with `OB_ZERO`, the added ones are
zeros; denied, `FAIL` and nothing but the request changed (R168). Where the region is dead or not smaller than the new size the request may not be issued (R162): that CORE then faults is the
model's choice (log entry 18), and that every listed grant is `DONE`, one with an illegal handle keeping the old one, is its choice too (log entry 4). -/
def Obligations.ObGrowAddsTheIncrement : Prop :=
  ∀ s : State, s.work.obPtr.written = true → s.work.obCap.written = true → s.work.obInc.written = true →
    s.work.obZero.written = true → s.work.obCap.value + s.work.obInc.value < 2 ^ s.sizeW →
    (∀ r, Memory.wf s.mem → regionGet s.mem s.work.obPtr.value = some r →
      r.cap < s.work.obCap.value + s.work.obInc.value →
      ∃ t, exec .obGrow s = .next t ∧
        t = { s with mem := t.mem, answers := s.answers.tail, work := t.work, ret := t.ret, freeNext := t.freeNext,
                     requests := .grow s.work.obPtr.value (s.work.obCap.value + s.work.obInc.value)
                       (s.work.obZero.value == 1) :: s.requests } ∧
        ((t.ret = .ob .fail ∧ t.mem = s.mem ∧ t.work = s.work) ∨
          (t.ret = .ob .done ∧ ∃ g, g ≠ nullHandle ∧ (g = s.work.obPtr.value ∨ isLive s.mem g = false) ∧
            t.work = { s.work with obPtr := .wr g, obCap := .wr (s.work.obCap.value + s.work.obInc.value) } ∧
            (∃ r', regionGet t.mem g = some r' ∧ r'.granted = true ∧
              r'.cap = s.work.obCap.value + s.work.obInc.value) ∧
            (∀ i, i < r.cap → readByte t.mem g i = readByte s.mem s.work.obPtr.value i) ∧
            (s.work.obZero.value = 1 → ∀ i, r.cap ≤ i → i < s.work.obCap.value + s.work.obInc.value →
              readByte t.mem g i = some 0) ∧
            (g ≠ s.work.obPtr.value → isLive t.mem s.work.obPtr.value = false) ∧
            OthersKept s t [g, s.work.obPtr.value])) ∧
        (∀ rest, s.answers = .deny :: rest → t.ret = .ob .fail) ∧
        (∀ h rest, s.answers = .grant h :: rest → t.ret = .ob .done)) ∧
    ((∀ r, regionGet s.mem s.work.obPtr.value = some r →
        s.work.obCap.value + s.work.obInc.value ≤ r.cap) →
      exec .obGrow s = .fault (.requestContract s.work.obPtr.value))

/-- OB.RELEASE: the region of `OB_PTR` is dead, `OB_PTR`, `OB_CAP` and `OB_LEN` are `NULL`, 0 and 0, and no other region is touched (R169). The request is issued only
with a live region (R163): that a dead one faults is the model's choice (log entry 18). -/
def Obligations.ObReleaseGivesTheRegionBack : Prop :=
  ∀ s : State, s.work.obPtr.written = true →
    (isLive s.mem s.work.obPtr.value = true → ∃ t, exec .obRelease s = .next t ∧
      t = { s with mem := t.mem, requests := .release s.work.obPtr.value :: s.requests, ret := .none,
                   work := { s.work with obPtr := .wr nullHandle, obCap := .wr 0, obLen := .wr 0 } } ∧
      isLive t.mem s.work.obPtr.value = false ∧ OthersKept s t [s.work.obPtr.value]) ∧
    (isLive s.mem s.work.obPtr.value = false →
      exec .obRelease s = .fault (.requestContract s.work.obPtr.value))

/-! ### The ends of a command -/

/-- The two ends: `complete` writes kind 0 and `raise` the code of its kind, with the three other result registers; PHASE is `IDLE`, `BUSY` is 0, the working registers are unspecified, and
tables, operand registers and regions are as they were (R256, R257). -/
def Obligations.CompleteAndRaiseEndTheCommand : Prop :=
  ∀ (ptr len cap : Nat) (s : State), ptr < 2 ^ s.sizeW → len < 2 ^ s.sizeW → cap < 2 ^ s.sizeW →
    (∃ t, exec (.kindOk ptr len cap) s = .next t ∧ Ends s t 0 ptr len cap) ∧
    (∃ t, exec (.kindOutOfMemory ptr len cap) s = .next t ∧ Ends s t 1 ptr len cap) ∧
    (∃ t, exec (.kindInitializationFailed ptr len cap) s = .next t ∧ Ends s t 2 ptr len cap) ∧
    (∃ t, exec (.kindInternal ptr len cap) s = .next t ∧ Ends s t 3 ptr len cap)

/-! ### PREWARM -/

/-- PREWARM with no command in progress and `IN_LEN` in range: with the table present it ends `OK` with no request (R143's own inference); with it absent, one `ALLOC_TABLE`: granted, the table is built and it ends `OK`; denied, it ends
`OutOfMemory` with the table still absent. It touches no region (R142 to R145). While a command is in progress it is refused (R300), and so it is with an `IN_LEN` out of range: R96 makes no exception for it (log entry 16). -/
def Obligations.PrewarmBuildsTheTableOnce : Prop :=
  ∀ s : State,
    (s.inLen < 2 ^ (s.sizeW - 6) → s.busy = false → s.dtValid = true → ∃ t, exec .prewarm s = .next t ∧
      Ends s t 0 nullHandle 0 0) ∧
    (s.inLen < 2 ^ (s.sizeW - 6) → s.busy = false → s.dtValid = false → ∃ t, exec .prewarm s = .next t ∧
      (Ends { s with dt := sortByLength s.rom, dtValid := true, answers := s.answers.tail,
                     requests := .allocTable :: s.requests } t 0 nullHandle 0 0 ∨
        Ends { s with answers := s.answers.tail, requests := .allocTable :: s.requests } t 1 nullHandle 0 0) ∧
      (∀ h rest, s.answers = .grant h :: rest → t.resKind = 0) ∧
      (∀ rest, s.answers = .deny :: rest → t.resKind = 1)) ∧
    (s.inLen < 2 ^ (s.sizeW - 6) → s.busy = true → exec .prewarm s = .refused .commandWhileBusy) ∧
    (2 ^ (s.sizeW - 6) ≤ s.inLen → exec .prewarm s = .refused .outOfRange)

/-! ### ENCODE -/

/-- ENC.ALLOC asks for `cap0(IN_LEN)` zeroed bytes; granted, the counters are 0 and PHASE is `ENC_FETCH`; denied, the command ends "no result" with kind `OK` (R182, R183, R189). -/
def Obligations.EncAllocObtainsTheInitialBuffer : Prop :=
  ∀ s : State, cap0 s.inLen < 2 ^ s.sizeW → 100 < 2 ^ s.sizeW →
    ∃ s1 t, exec (.obAlloc (4 * ((((5 * s.inLen + 3) / 4) + 3) / 4)) 100 true) s = .next s1 ∧
      exec .encAlloc s = .next t ∧
      (s1.ret = .ob .done →
        t = { s1 with work := { s1.work with symIdx := .wr 0, bitsSet := .wr 0 }, phase := .encFetch, ret := s.ret }) ∧
      (s1.ret = .ob .fail → Ends s1 t 0 nullHandle 0 0) ∧
      (∀ h rest, s.answers = .grant h :: rest → h < 2 ^ s.sizeW → h ≠ nullHandle → isLive s.mem h = false →
        s1.ret = .ob .done) ∧
      (∀ rest, s.answers = .deny :: rest → s1.ret = .ob .fail)

/-- ENC.FETCH reads one input byte, looks up its entry and advances `SYM_IDX`; where the input is exhausted only PHASE changes, to `ENC_PAD` (R184). -/
def Obligations.EncFetchLooksUpTheNextByte : Prop :=
  ∀ s : State, s.work.symIdx.written = true → s.inLen < 2 ^ s.sizeW →
    (s.work.symIdx.value = s.inLen → exec .encFetch s = .next { s with phase := .encPad }) ∧
    (∀ (b : Byte) (e : CodeEntry), s.work.symIdx.value < s.inLen →
      readByte s.mem s.inPtr s.work.symIdx.value = some b → s.rom[b.toNat]? = some e →
      exec .encFetch s = .next { s with
        work := { s.work with curCode := .wr e.code, curLen := .wr e.length, bitsLeft := .wr e.length,
                              symIdx := .wr (s.work.symIdx.value + 1) },
        phase := .encPack })

/-- ENC.PACK where the byte `BITS_SET div 8` is inside the region: the `n` most significant of the bits still to write go into the byte's highest unused positions, the counters move by `n`, and
no other byte of memory changes (R185). -/
def Obligations.EncPackWritesOneChunk : Prop :=
  ∀ (s : State) (old : Byte), (∀ r ∈ [WName.bitsSet, .bitsLeft, .curCode, .obPtr, .obCap], s.work.isWritten r = true) →
    let pos := s.work.bitsSet.value
    let left := s.work.bitsLeft.value.toNat
    let free := 8 - pos % 8
    let n := min free left
    let chunk := (s.work.curCode.value.toNat >>> (left - n)) % 2 ^ n
    pos / 8 < s.work.obCap.value → pos + n < 2 ^ s.sizeW → pos / 8 + 1 < 2 ^ s.sizeW →
    readByte s.mem s.work.obPtr.value (pos / 8) = some old →
    ∃ m, exec .encPack s = .next { s with
        mem := m,
        work := { s.work with obLen := .wr (pos / 8 + 1), bitsSet := .wr (pos + n),
                              bitsLeft := .wr (BitVec.ofNat 6 (left - n)) },
        phase := if left - n = 0 then .encFetch else .encPack } ∧
      readByte m s.work.obPtr.value (pos / 8) = some (old ||| BitVec.ofNat 8 (chunk * 2 ^ (free - n))) ∧
      OtherBytesKept s.mem m s.work.obPtr.value (pos / 8)

/-- ENC.PACK where the byte is at the capacity: OB.GROW first; granted, the pass is that of the grown state; denied, the unwind releases the partly built buffer and ends the command "no result" with kind
`OK`, the region dead and every other region untouched (R185, R188). -/
def Obligations.EncPackGrowsOrUnwinds : Prop :=
  ∀ (s : State) (r : Region),
    (∀ x ∈ [WName.bitsSet, .bitsLeft, .curCode, .obPtr, .obCap, .obInc, .obZero], s.work.isWritten x = true) →
    s.work.obCap.value ≤ s.work.bitsSet.value / 8 →
    s.work.bitsSet.value / 8 < s.work.obCap.value + s.work.obInc.value →
    s.work.obCap.value + s.work.obInc.value < 2 ^ s.sizeW →
    regionGet s.mem s.work.obPtr.value = some r →
    r.cap < s.work.obCap.value + s.work.obInc.value →
    ∃ s1, exec .obGrow s = .next s1 ∧
      (s1.ret = .ob .done → exec .encPack s = exec .encPack { s1 with ret := s.ret }) ∧
      (s1.ret = .ob .fail → ∃ s2 t, exec .obRelease s1 = .next s2 ∧ exec .encPack s = .next t ∧
        Ends s2 t 0 nullHandle 0 0 ∧ isLive t.mem s.work.obPtr.value = false ∧
        OthersKept s t [s.work.obPtr.value])

/-- ENC.PAD: the low `8 - r` bits of a last byte that holds `r` code bits become 1, no other byte changes, and the command completes with the number of bytes used (R186). -/
def Obligations.EncPadFillsTheLastByteWithOnes : Prop :=
  ∀ s : State, (∀ x ∈ [WName.bitsSet, .obPtr, .obCap], s.work.isWritten x = true) →
    (s.work.bitsSet.value + 7) / 8 < 2 ^ s.sizeW →
    let pos := s.work.bitsSet.value
    (pos % 8 = 0 → ∃ t, exec .encPad s = .next t ∧
      Ends s t 0 s.work.obPtr.value ((pos + 7) / 8) s.work.obCap.value) ∧
    (∀ old, pos % 8 ≠ 0 → readByte s.mem s.work.obPtr.value (pos / 8) = some old → ∃ t, exec .encPad s = .next t ∧
      Ends { s with mem := t.mem } t 0 s.work.obPtr.value ((pos + 7) / 8) s.work.obCap.value ∧
      readByte t.mem s.work.obPtr.value (pos / 8) = some (old ||| BitVec.ofNat 8 (2 ^ (8 - pos % 8) - 1)) ∧
      OtherBytesKept s.mem t.mem s.work.obPtr.value (pos / 8))

/-- ENCODE of nothing: with `IN_PTR = NULL` or `IN_LEN = 0` it completes "no result" with kind `OK`, no request and no memory access. A handle that is not a live region of at least `IN_LEN`
bytes, and a length beyond the range condition, are refused (R181). -/
def Obligations.EncodeOfNothingIsNoResult : Prop :=
  ∀ s : State, s.busy = false →
    (s.inLen < 2 ^ (s.sizeW - 6) → s.inPtr = nullHandle ∨ s.inLen = 0 →
      ∃ t, exec .encode s = .next t ∧ Ends s t 0 nullHandle 0 0) ∧
    (s.inLen < 2 ^ (s.sizeW - 6) → s.inPtr ≠ nullHandle → s.inLen ≠ 0 → ¬InputLive s →
      exec .encode s = .refused .inputRegion) ∧
    (2 ^ (s.sizeW - 6) ≤ s.inLen → exec .encode s = .refused .outOfRange)

/-- Every admitted ENCODE ends with kind `OK`, whatever ALLOCATOR answers: with no result, or with the complete encoding of its input (R190, R195) in a live region it obtained, of the capacity reported. It leaves `ROM`, `DT`, `DT_VALID`, the operand registers and
every region that was live before, byte for byte, as they were, and without a result it leaves no new region (R63, R187, R188, R195, R258). -/
def Obligations.EncodeNeverEndsWithAnError : Prop :=
  ∀ s : State, Sound s → admission .encode s = none →
    ∃ t, exec .encode s = .next t ∧ t.resKind = 0 ∧ t.busy = false ∧ t.phase = .idle ∧
      t.rom = s.rom ∧ t.dt = s.dt ∧ t.dtValid = s.dtValid ∧ t.hostData = s.hostData ∧ t.agenda = s.agenda ∧
      t.inPtr = s.inPtr ∧ t.inLen = s.inLen ∧ t.outPtr = s.outPtr ∧ t.outCap = s.outCap ∧
      (∀ g, isLive s.mem g = true → regionGet t.mem g = regionGet s.mem g ∧
        ∀ i, readByte t.mem g i = readByte s.mem g i) ∧
      ((t.resPtr = nullHandle ∧ t.resLen = 0 ∧ t.resCap = 0 ∧ OthersKept s t []) ∨
        (t.resPtr ≠ nullHandle ∧ isLive s.mem t.resPtr = false ∧ 1 ≤ t.resLen ∧ t.resLen ≤ t.resCap ∧ Encoded s t ∧
          (∃ r, regionGet t.mem t.resPtr = some r ∧ r.granted = true ∧ r.cap = t.resCap) ∧
          ∀ g, g ≠ t.resPtr → regionGet t.mem g = regionGet s.mem g))

/-- What ENCODE computes when every request is granted: a region that holds the codes of the input bytes, one after another, most significant bit first, then ones up to the end of the last byte, then zeros to the
capacity, which is `cap0` plus 100 per growth needed, with one request for the region and one per growth (R110, R187, R190, R196, and R172, R192 for the growths). -/
def Obligations.EncodeWritesTheCodeStream : Prop :=
  ∀ s : State, Sound s → admission .encode s = none → s.inPtr ≠ nullHandle → s.inLen ≠ 0 → Grants (s.inLen + 2) s →
    ∃ t, exec .encode s = .next t ∧ t.resKind = 0 ∧ t.resPtr ≠ nullHandle ∧ Encoded s t ∧
      t.requests.length = s.requests.length + 1 + (t.resLen - cap0 s.inLen + 99) / 100

/-- ENCODE reads neither `DT` nor `DT_VALID` and leaves both unchanged: from a state that differs only in them it does the same (R194). -/
def Obligations.EncodeIgnoresTheDecodeTable : Prop :=
  ∀ (s t : State) (d : List CodeEntry) (v : Bool), exec .encode s = .next t →
    t.dt = s.dt ∧ t.dtValid = s.dtValid ∧
    exec .encode { s with dt := d, dtValid := v } = .next { t with dt := d, dtValid := v }

/-! ### DECODE -/

/-- DEC.INIT: with the table present only PHASE changes; with it absent the table is built, and a failed build ends the command with `InitializationFailed` and the supplied buffer handed back, no region touched (R211, R254). -/
def Obligations.DecInitBuildsTheTableOrFails : Prop :=
  ∀ s : State,
    (s.dtValid = true → exec .decInit s = .next { s with phase := .decStart }) ∧
    (s.dtValid = false → ∃ s1 t, exec .dtBuild s = .next s1 ∧ exec .decInit s = .next t ∧
      (s1.ret = .ob .done → t = { s1 with phase := .decStart, ret := s.ret }) ∧
      (s1.ret = .ob .fail → t.mem = s.mem ∧ t.dtValid = false ∧
        Ends s1 t 2 s.outPtr 0 (if s.outPtr = nullHandle then 0 else s.outCap)))

/-- DEC.START adopts the supplied region, or asks for `2 × IN_LEN` bytes that need not be zero, and sets the counters; a denied request ends the command with `OutOfMemory` (R212). The loop starts in `SCANNING`, or with no input in `TERM` (R210, R213). -/
def Obligations.DecStartSetsTheBufferAndTheCounters : Prop :=
  ∀ s : State, 8 * s.inLen < 2 ^ s.sizeW → 1000 < 2 ^ s.sizeW →
    (s.outPtr ≠ nullHandle → exec .decStart s = .next { s with
      work := { s.work with obPtr := .wr s.outPtr, obCap := .wr s.outCap, obLen := .wr 0, obInc := .wr 1000,
                            obZero := .wr 0, bitsDone := .wr 0, bitsTotal := .wr (8 * s.inLen),
                            outPos := .wr 0 },
      phase := if s.inLen = 0 then .term else .scanning }) ∧
    (s.outPtr = nullHandle → ∃ s1 t, exec (.obAlloc (2 * s.inLen) 1000 false) s = .next s1 ∧
      exec .decStart s = .next t ∧
      (s1.ret = .ob .done → t = { s1 with
        work := { s1.work with bitsDone := .wr 0, bitsTotal := .wr (8 * s.inLen),
                               outPos := .wr 0 },
        phase := if s.inLen = 0 then .term else .scanning, ret := s.ret }) ∧
      (s1.ret = .ob .fail → Ends s1 t 1 nullHandle 0 0))

/-- DEC.WINDOW: for every length from 1 to 32 and every bit offset, the combined and shifted windows are the stream bits; bytes past the input are taken as zeros and, for a length the input still holds, do not count
(R215 to R217). Nothing but the value returned changes. That a length outside 1 to 32 is refused is the model's choice (log entry 30): R216 and R217 give it no outcome. -/
def Obligations.WindowIsTheStreamBits : Prop :=
  ∀ (s : State) (len : BitVec 6), s.work.bitsDone.written = true →
    (1 ≤ len.toNat → len.toNat ≤ 32 → s.inLen = 0 ∨ InputLive s →
      exec (.decWindow len) s = .next { s with
        ret := .window (streamBits (fun i => if i < s.inLen then inputByte s i else 0)
          s.work.bitsDone.value len.toNat) } ∧
      (len.toNat ≤ 8 * s.inLen - s.work.bitsDone.value →
        exec (.decWindow len) s = .next { s with
          ret := .window (streamBits (inputByte s) s.work.bitsDone.value len.toNat) })) ∧
    (len.toNat = 0 ∨ 32 < len.toNat → exec (.decWindow len) s = .refused .illFormed)

/-- DEC.SCAN tests the entries in order, each first for the remaining bits, then for its length, then for its code (R214, R215, R220 to R222). Entry `k` is reached when every entry before it has room, is no longer than 32 bits and differs from the stream.
There: no room is `SHORT`; a length over 32 ends the command with `Internal`; the code of symbol 256 is `EOS`; another code is a match. No entry left is `NOMATCH` with `SCAN_K` 257. -/
def Obligations.DecScanFindsTheFirstMatch : Prop :=
  ∀ s : State, s.work.bitsDone.written = true → s.work.bitsTotal.written = true → s.dtValid = true →
    s.dt.length = nsym → s.inLen = 0 ∨ InputLive s →
    let p := s.work.bitsDone.value
    let remaining := s.work.bitsTotal.value - p
    let next := fun len => streamBits (fun i => if i < s.inLen then inputByte s i else 0) p len
    let passed := fun (k : Nat) => ∀ (j : Nat) (e : CodeEntry), j < k → s.dt[j]? = some e →
      e.length.toNat ≤ remaining ∧ e.length.toNat ≤ 32 ∧ next e.length.toNat ≠ e.code.toNat
    let stopAt := fun (k : Nat) (r : Scan) (ph : Phase) => exec .decScan s = .next { s with
      work := { s.work with scanK := .wr (BitVec.ofNat 9 k) }, ret := .scan r, phase := ph }
    (∀ (k : Nat) (e : CodeEntry), s.dt[k]? = some e → passed k →
      (remaining < e.length.toNat → stopAt k (.short k) .term) ∧
      (e.length.toNat ≤ remaining → 32 < e.length.toNat →
        (∀ x ∈ [WName.obPtr, .outPos, .obCap], s.work.isWritten x = true) →
        ∃ t, exec .decScan s = .next t ∧ Ends s t 3 s.work.obPtr.value s.work.outPos.value s.work.obCap.value) ∧
      (e.length.toNat ≤ remaining → e.length.toNat ≤ 32 → next e.length.toNat = e.code.toNat →
        (e.symbol.toNat = 256 → stopAt k (.eos k) .term) ∧
        (e.symbol.toNat ≠ 256 → stopAt k (.found k) .emit))) ∧
    (passed 257 → stopAt 257 (.noMatch 257) .term)

/-- DEC.EMIT of entry `k`: where `OUT_POS` is inside the region the symbol is written there and the counters advance by one byte and by the entry's length; at the capacity OB.GROW comes first: granted, the pass is that of the grown state; denied, the command ends with
`OutOfMemory`, the full region and the bytes decoded so far, nothing written (R218, R223). -/
def Obligations.DecEmitWritesTheSymbol : Prop :=
  ∀ (s : State) (k : BitVec 9) (e : CodeEntry), s.dtValid = true → s.dt[k.toNat]? = some e → e.symbol.toNat ≤ 255 →
    (∀ x ∈ [WName.obPtr, .obCap, .outPos, .bitsDone, .bitsTotal], s.work.isWritten x = true) →
    let pos := s.work.outPos.value
    let done := s.work.bitsDone.value + e.length.toNat
    (∀ old, pos < s.work.obCap.value → readByte s.mem s.work.obPtr.value pos = some old → pos + 1 < 2 ^ s.sizeW →
      done < 2 ^ s.sizeW →
      ∃ m, exec (.decEmit k) s = .next { s with
          mem := m,
          work := { s.work with outPos := .wr (pos + 1), obLen := .wr (pos + 1),
                                bitsDone := .wr done },
          phase := if done < s.work.bitsTotal.value then .scanning else .term } ∧
        readByte m s.work.obPtr.value pos = some (BitVec.ofNat 8 e.symbol.toNat) ∧
        OtherBytesKept s.mem m s.work.obPtr.value pos) ∧
    (∀ r, s.work.obInc.written = true → s.work.obZero.written = true → s.work.obCap.value ≤ pos →
      s.work.obCap.value + s.work.obInc.value < 2 ^ s.sizeW →
      regionGet s.mem s.work.obPtr.value = some r → r.cap < s.work.obCap.value + s.work.obInc.value →
      ∃ s1, exec .obGrow s = .next s1 ∧
        (s1.ret = .ob .done → pos < s.work.obCap.value + s.work.obInc.value →
          exec (.decEmit k) s = exec (.decEmit k) { s1 with ret := s.ret }) ∧
        (s1.ret = .ob .fail → ∃ t, exec (.decEmit k) s = .next t ∧ t.mem = s.mem ∧
          Ends s1 t 1 s.work.obPtr.value s.work.outPos.value s.work.obCap.value))

/-- DEC.TERM: where `OUT_POS` is inside the region, 0x00 is written there and the command completes with the count of decoded bytes; at the capacity OB.GROW comes first: granted, the step is that of the grown state; denied, `OutOfMemory` with no terminator (R219, R223). -/
def Obligations.DecTermWritesTheTerminator : Prop :=
  ∀ s : State, (∀ x ∈ [WName.obPtr, .obCap, .outPos], s.work.isWritten x = true) →
    let pos := s.work.outPos.value
    (∀ old, pos < s.work.obCap.value → readByte s.mem s.work.obPtr.value pos = some old →
      ∃ t, exec .decTerm s = .next t ∧
        Ends { s with mem := t.mem } t 0 s.work.obPtr.value s.work.outPos.value s.work.obCap.value ∧
        readByte t.mem s.work.obPtr.value pos = some 0 ∧ OtherBytesKept s.mem t.mem s.work.obPtr.value pos) ∧
    (∀ r, s.work.obInc.written = true → s.work.obZero.written = true → s.work.obCap.value ≤ pos →
      s.work.obCap.value + s.work.obInc.value < 2 ^ s.sizeW →
      regionGet s.mem s.work.obPtr.value = some r → r.cap < s.work.obCap.value + s.work.obInc.value →
      ∃ s1, exec .obGrow s = .next s1 ∧
        (s1.ret = .ob .done → pos < s.work.obCap.value + s.work.obInc.value →
          exec .decTerm s = exec .decTerm { s1 with ret := s.ret }) ∧
        (s1.ret = .ob .fail → ∃ t, exec .decTerm s = .next t ∧ t.mem = s.mem ∧
          Ends s1 t 1 s.work.obPtr.value s.work.outPos.value s.work.obCap.value))

/-- The ends of a DECODE in a sound state (R231): `OK` with the whole parse of the input (R224) and the terminator in the region, `OutOfMemory` with no region or with a full one that holds the first `RES_LEN` symbols of the
parse (R223), `InitializationFailed` with the supplied buffer; never `Internal` (R222). Whatever the end, the input region and every other region but the supplied one, byte for
byte, `ROM`, the operand registers and, once built, `DT` are as they were (R63, R229, R265). -/
def Obligations.DecodeEndsAsTabled : Prop :=
  ∀ s : State, Sound s → admission .decode s = none →
    ∃ t, exec .decode s = .next t ∧ t.busy = false ∧ t.phase = .idle ∧
      t.rom = s.rom ∧ (s.dtValid = true → t.dt = s.dt ∧ t.dtValid = true) ∧
      t.hostData = s.hostData ∧ t.agenda = s.agenda ∧
      t.inPtr = s.inPtr ∧ t.inLen = s.inLen ∧ t.outPtr = s.outPtr ∧ t.outCap = s.outCap ∧
      (∀ g, isLive s.mem g = true → g ≠ s.outPtr → regionGet t.mem g = regionGet s.mem g ∧
        ∀ i, readByte t.mem g i = readByte s.mem g i) ∧
      (∀ g, g ≠ t.resPtr → isLive t.mem g = true → isLive s.mem g = true) ∧
      ((t.resKind = 0 ∧ t.resPtr ≠ nullHandle ∧ t.resLen < t.resCap ∧ t.dtValid = true ∧
          t.resLen = (parse s.rom (inputByte s) s.inLen).length ∧ HoldsParse s t ∧
          (∃ r, regionGet t.mem t.resPtr = some r ∧ r.granted = true ∧ r.cap = t.resCap) ∧
          readByte t.mem t.resPtr t.resLen = some 0) ∨
        (t.resKind = 1 ∧ t.dtValid = true ∧ t.resPtr = nullHandle ∧ s.outPtr = nullHandle ∧ t.resLen = 0 ∧ t.resCap = 0) ∨
        (t.resKind = 1 ∧ t.dtValid = true ∧ t.resPtr ≠ nullHandle ∧ t.resLen = t.resCap ∧ HoldsParse s t ∧
          ∃ r, regionGet t.mem t.resPtr = some r ∧ r.granted = true ∧ r.cap = t.resCap) ∨
        (t.resKind = 2 ∧ s.dtValid = false ∧ t.dtValid = false ∧ t.mem = s.mem ∧ t.resPtr = s.outPtr ∧ t.resLen = 0 ∧
          t.resCap = if s.outPtr = nullHandle then 0 else s.outCap))

/-- What DECODE computes when every request is granted: the parse of R224, then a zero byte (R224, R253). -/
def Obligations.DecodeComputesTheParse : Prop :=
  ∀ s : State, Sound s → admission .decode s = none → Grants (s.inLen + 3) s →
    ∃ t, exec .decode s = .next t ∧ t.resKind = 0 ∧
      t.resLen = (parse s.rom (inputByte s) s.inLen).length ∧
      (∀ i v, (parse s.rom (inputByte s) s.inLen)[i]? = some v →
        readByte t.mem t.resPtr i = some (BitVec.ofNat 8 v) ∧ v ≤ 255) ∧
      readByte t.mem t.resPtr t.resLen = some 0

/-- Round trip: an ENCODE that gives a region, then a DECODE of that region, gives back the input bytes (R225). -/
def Obligations.DecodeOfEncodeIsTheInput : Prop :=
  ∀ s t : State, Sound s → exec .encode s = .next t → t.resPtr ≠ nullHandle →
    let s2 := { t with inPtr := t.resPtr, inLen := t.resLen, outPtr := nullHandle }
    t.resLen < 2 ^ (s.sizeW - 6) → Grants (t.resLen + 3) s2 →
    ∃ u, exec .decode s2 = .next u ∧ u.resKind = 0 ∧ u.resLen = s.inLen ∧
      (∀ i, i < s.inLen → readByte u.mem u.resPtr i = readByte s.mem s.inPtr i) ∧
      readByte u.mem u.resPtr u.resLen = some 0

/-- The code rows, whose meaning is the model's reading of R113 and R210 (log entry 15): the code of symbol `n` up to 255 is one pass of the decoder's loop: the entry of `n`, copied whole from `ROM`, is the one DEC.EMIT consumes: byte `n` goes to the next place and `BITS_DONE` advances by the code's length; at the capacity DEC.EMIT's growth applies.
The code of 256 writes nothing, advances nothing and ends the loop (R210, R218, R220). -/
def Obligations.CodesEmitTheirSymbols : Prop :=
  ∀ (i : Instr) (n : Nat) (s : State), i.symbol? = some n → Sound s → s.dtValid = true →
    ∃ (k : BitVec 9) (e : CodeEntry), s.rom[n]? = some e ∧ e.symbol.toNat = n ∧ s.dt[k.toNat]? = some e ∧
      (n ≤ 255 → exec i s = exec (.decEmit k) { s with work := { s.work with scanK := .wr k } }) ∧
      (n ≤ 255 → (∀ x ∈ [WName.obPtr, .obCap, .outPos, .bitsDone, .bitsTotal], s.work.isWritten x = true) →
        s.work.outPos.value < s.work.obCap.value → s.work.outPos.value + 1 < 2 ^ s.sizeW →
        s.work.bitsDone.value + e.length.toNat < 2 ^ s.sizeW →
        ∀ old, readByte s.mem s.work.obPtr.value s.work.outPos.value = some old →
        ∃ m, exec i s = .next { s with
            mem := m,
            work := { s.work with
              scanK := .wr k,
              outPos := .wr (s.work.outPos.value + 1), obLen := .wr (s.work.outPos.value + 1),
              bitsDone := .wr (s.work.bitsDone.value + e.length.toNat) },
            phase := if s.work.bitsDone.value + e.length.toNat < s.work.bitsTotal.value then .scanning
              else .term } ∧
          readByte m s.work.obPtr.value s.work.outPos.value = some (BitVec.ofNat 8 n) ∧
          OtherBytesKept s.mem m s.work.obPtr.value s.work.outPos.value) ∧
      (n = 256 → exec i s = .next { s with work := { s.work with scanK := .wr k }, phase := .term })

/-! ### The registers HOST reaches -/

/-- What HOST reads: `CMD` 0; `STATUS` `BUSY` in bit 0, `DT_VALID` in bit 1 and zeros above; the operand registers; the results while `BUSY` = 0, and some value while `BUSY` = 1; nothing else exists. A read changes only what HOST holds (R40 to R50). -/
def Obligations.HostReadsTheRegisters : Prop :=
  (∀ s : State, hostRead 0 s = .next { s with hostData := 0 }) ∧
  (∀ s : State, ∃ v : Nat, hostRead 1 s = .next { s with hostData := v } ∧ v.testBit 0 = s.busy ∧ v.testBit 1 = s.dtValid ∧
    ∀ i, 2 ≤ i → v.testBit i = false) ∧
  hostRead 1 State.reset = .next { State.reset with hostData := 0 } ∧
  (∀ s : State, hostRead 2 s = .next { s with hostData := s.inPtr } ∧ hostRead 3 s = .next { s with hostData := s.inLen } ∧
    hostRead 4 s = .next { s with hostData := s.outPtr } ∧ hostRead 5 s = .next { s with hostData := s.outCap }) ∧
  (∀ s : State, s.busy = false →
    hostRead 6 s = .next { s with hostData := s.resKind.toNat } ∧
    hostRead 7 s = .next { s with hostData := s.resPtr } ∧ hostRead 8 s = .next { s with hostData := s.resLen } ∧
    hostRead 9 s = .next { s with hostData := s.resCap }) ∧
  (∀ (s : State) (n : Nat), s.busy = true → 6 ≤ n → n ≤ 9 →
    ∃ v : Nat, v < 2 ^ s.sizeW ∧ hostRead n s = .next { s with hostData := v, freeNext := s.freeNext + 1 }) ∧
  (∀ (s : State) (n : Nat), 10 ≤ n → hostRead n s = .refused (.noSuchRegister n)) ∧
  (∀ (s : State) (n : Nat) (rest : List Action),
    step { s with agenda := .read n :: rest } = hostRead n { s with agenda := rest })

/-- What HOST writes: with no command in progress the operand registers take any value of `SIZE_W` bits and nothing else changes; a legal word to `CMD` accepts the command if it is admitted. While `BUSY` = 1 every such write is refused; writes to registers 1 and 6 to 9 and to registers that do not
exist are always refused (R40, R42 to R45, R50, R300, R301). That a word of more than `SIZE_W` bits is refused is the model's reading of R8 (log entry 19). -/
def Obligations.HostWritesTheRegisters : Prop :=
  (∀ (s : State) (v : Nat), s.busy = false → v < 2 ^ s.sizeW →
    hostWrite 2 v s = .next { s with inPtr := v } ∧ hostWrite 3 v s = .next { s with inLen := v } ∧
    hostWrite 4 v s = .next { s with outPtr := v } ∧ hostWrite 5 v s = .next { s with outCap := v }) ∧
  (∀ (s : State) (v : Nat) (n : Nat), s.busy = false → 2 ^ s.sizeW ≤ v → 2 ≤ n → n ≤ 5 → hostWrite n v s = .refused .tooWide) ∧
  (∀ (s : State) (v : Nat) (n : Nat), s.busy = true → 2 ≤ n → n ≤ 5 → hostWrite n v s = .refused .operandWhileBusy) ∧
  (∀ (s : State) (w : Nat), s.busy = true → ∃ r, hostWrite 0 w s = .refused r) ∧
  (∀ (s : State) (c : Command) (w : Nat) (i : Instr), decodeCmd w = .ok i → commandOf i = some c → admission c s = none →
    hostWrite 0 w s = .next (accept c s)) ∧
  (∀ s : State, s.busy = false → (s.dtValid = false → (accept .prewarm s).busy = true ∧ (accept .prewarm s).phase = .build) ∧
    (s.inPtr ≠ nullHandle → s.inLen ≠ 0 → (accept .encode s).busy = true ∧ (accept .encode s).phase = .encAlloc) ∧
    (accept .decode s).busy = true ∧ (accept .decode s).phase = .decInit) ∧
  (∀ (s : State) (v : Nat) (n : Nat), n = 1 ∨ (6 ≤ n ∧ n ≤ 9) → hostWrite n v s = .refused (.readOnlyRegister n)) ∧
  (∀ (s : State) (v : Nat) (n : Nat), 10 ≤ n → hostWrite n v s = .refused (.noSuchRegister n)) ∧
  (∀ (s : State) (n : Nat) (v : Nat) (rest : List Action),
    step { s with agenda := .write n v :: rest } = hostWrite n v { s with agenda := rest })
end

