-- ==== Sys2Proof/Laws/Codes.lean ====
section
/-! SUPPORT. The 257 code rows as one operation: the pass of their symbol. -/

namespace Sys2Proof.Machine

open Sys2Proof

/-- The meaning of a code row is the pass of its symbol. -/
theorem exec_of_symbol {i : Instr} {n : Nat} (h : i.symbol? = some n) (s : State) :
    exec i s = ofRun (codePass n s) := by
  cases i <;> first | (cases h; rfl) | cases h

/-- The code rows are those of symbols 0 to 256. -/
theorem symbol_le {i : Instr} {n : Nat} (h : i.symbol? = some n) : n ≤ 256 := by
  cases i <;> first | (cases h; decide) | cases h

/-- A row is the code row of its symbol. -/
theorem codeInstr_of_symbol {i : Instr} {n : Nat} (h : i.symbol? = some n) : codeInstr n = some i := by
  cases i <;> first | (cases h; rfl) | cases h

/-- The code row of a symbol has that symbol. -/
theorem symbol_of_codeInstr : ∀ n : Nat, n ≤ 256 → ∃ i, codeInstr n = some i ∧ i.symbol? = some n := by
  intro n hn
  have h : ((List.range 257).all fun k => (codeInstr k).bind Instr.symbol? == some k) = true := by decide +kernel
  have h1 := List.all_eq_true.1 h n (List.mem_range.2 (by omega))
  cases hc : codeInstr n with
  | none => simp [hc] at h1
  | some i => exact ⟨i, rfl, by simpa [hc] using h1⟩

/-- A code row has the format of the codes. -/
theorem format_of_symbol {i : Instr} {n : Nat} (h : i.symbol? = some n) : i.format = .huffcode := by
  cases i <;> first | rfl | cases h

end Sys2Proof.Machine
end

