-- ==== Sys2Proof/Laws/Memory.lean ====
section
/-! SUPPORT. Laws of the region space: read after write, and that every operation keeps the canonical form. -/

namespace Sys2Proof.Machine

open Sys2Proof

/-! ### Cells -/

theorem cellGet_cellSet_same (cs : List Host.Cell) (i : Nat) (b : Byte) : cellGet (cellSet cs i b) i = some b := by
  induction cs with
  | nil => simp [cellSet, cellGet]
  | cons c cs ih =>
    obtain ⟨a, x⟩ := c
    simp only [cellSet]
    split
    · simp [cellGet]
    · split
      · simp [cellGet]
      · simp only [cellGet, ih]
        rw [if_neg (by omega)]

theorem cellGet_cellSet_other (cs : List Host.Cell) {i j : Nat} (b : Byte) (h : j ≠ i) :
    cellGet (cellSet cs i b) j = cellGet cs j := by
  induction cs with
  | nil => simp [cellSet, cellGet, h.symm]
  | cons c cs ih =>
    obtain ⟨a, x⟩ := c
    simp only [cellSet]
    split
    · simp [cellGet, h.symm]
    · split
      · rename_i h2; subst h2; simp [cellGet, h.symm]
      · simp only [cellGet, ih]

theorem mem_cellSet {cs : List Host.Cell} {i : Nat} {b : Byte} {c : Host.Cell} (h : c ∈ cellSet cs i b) :
    c = (i, b) ∨ c ∈ cs := by
  induction cs with
  | nil => simpa [cellSet] using h
  | cons d cs ih =>
    obtain ⟨a, x⟩ := d
    simp only [cellSet] at h
    split at h
    · simpa using h
    · split at h
      · rcases List.mem_cons.1 h with h | h
        · exact .inl h
        · exact .inr (List.mem_cons_of_mem _ h)
      · rcases List.mem_cons.1 h with h | h
        · exact .inr (by simp [h])
        · exact (ih h).imp_right (List.mem_cons_of_mem _)

theorem cellSet_rising {cs : List Host.Cell} (i : Nat) (b : Byte)
    (h : cs.Pairwise fun a b => a.1 < b.1) : (cellSet cs i b).Pairwise fun a b => a.1 < b.1 := by
  induction cs with
  | nil => simp [cellSet]
  | cons d cs ih =>
    obtain ⟨a, x⟩ := d
    obtain ⟨h1, h2⟩ := List.pairwise_cons.1 h
    simp only [cellSet]
    split
    · rename_i hlt
      refine List.pairwise_cons.2 ⟨fun c hc => ?_, h⟩
      rcases List.mem_cons.1 hc with rfl | hc
      · exact hlt
      · exact lt_trans hlt (h1 c hc)
    · split
      · rename_i heq
        subst heq
        exact List.pairwise_cons.2 ⟨h1, h2⟩
      · refine List.pairwise_cons.2 ⟨fun c hc => ?_, ih h2⟩
        rcases mem_cellSet hc with rfl | hc
        · show a < i; omega
        · exact h1 c hc

theorem zeroCells_fst {a b : Nat} {c : Host.Cell} (h : c ∈ zeroCells a b) : a ≤ c.1 ∧ c.1 < b ∧ c.2 = 0 := by
  simp only [zeroCells, List.mem_map, List.mem_range'_1] at h
  obtain ⟨i, hi, rfl⟩ := h
  refine ⟨hi.1, ?_, rfl⟩
  show i < b
  omega

theorem zeroCells_rising (a b : Nat) : (zeroCells a b).Pairwise fun x y => x.1 < y.1 := by
  simp only [zeroCells, List.pairwise_map]
  exact List.pairwise_lt_range' ..

/-! ### Regions -/

theorem regionGet_handle {m : Memory} {h : Nat} {r : Region} (hg : regionGet m h = some r) : r.handle = h := by
  induction m with
  | nil => simp [regionGet] at hg
  | cons x xs ih =>
    simp only [regionGet] at hg
    split at hg
    · rename_i hx; cases hg; exact hx
    · exact ih hg

theorem regionGet_mem {m : Memory} {h : Nat} {r : Region} (hg : regionGet m h = some r) : r ∈ m := by
  induction m with
  | nil => simp [regionGet] at hg
  | cons x xs ih =>
    simp only [regionGet] at hg
    split at hg
    · cases hg; simp
    · exact List.mem_cons_of_mem _ (ih hg)

theorem regionGet_regionPut_same (m : Memory) (r : Region) : regionGet (regionPut m r) r.handle = some r := by
  induction m with
  | nil => simp [regionPut, regionGet]
  | cons x xs ih =>
    simp only [regionPut]
    split
    · simp [regionGet]
    · split
      · simp [regionGet]
      · rename_i h2
        rw [regionGet, if_neg (fun h => h2 h.symm), ih]

theorem regionGet_regionPut_other (m : Memory) (r : Region) {h : Nat} (hne : h ≠ r.handle) :
    regionGet (regionPut m r) h = regionGet m h := by
  induction m with
  | nil => simp [regionPut, regionGet, hne.symm]
  | cons x xs ih =>
    simp only [regionPut]
    split
    · simp [regionGet, hne.symm]
    · split
      · rename_i h2
        simp [regionGet, hne.symm, h2 ▸ hne.symm]
      · simp only [regionGet, ih]

theorem regionGet_regionDrop_same (m : Memory) (h : Nat) : regionGet (regionDrop m h) h = none := by
  induction m with
  | nil => simp [regionDrop, regionGet]
  | cons x xs ih =>
    by_cases hx : x.handle = h
    · simpa [regionDrop, hx] using ih
    · have : regionDrop (x :: xs) h = x :: regionDrop xs h := by simp [regionDrop, hx]
      rw [this, regionGet, if_neg hx, ih]

theorem regionGet_regionDrop_other (m : Memory) {h g : Nat} (hne : g ≠ h) :
    regionGet (regionDrop m h) g = regionGet m g := by
  induction m with
  | nil => simp [regionDrop, regionGet]
  | cons x xs ih =>
    by_cases hx : x.handle = h
    · have : regionDrop (x :: xs) h = regionDrop xs h := by simp [regionDrop, hx]
      rw [this, ih, regionGet, if_neg (by rw [hx]; exact hne.symm)]
    · have : regionDrop (x :: xs) h = x :: regionDrop xs h := by simp [regionDrop, hx]
      simp only [this, regionGet, ih]

theorem mem_regionPut {m : Memory} {r x : Region} (h : x ∈ regionPut m r) : x = r ∨ x ∈ m := by
  induction m with
  | nil => simpa [regionPut] using h
  | cons y ys ih =>
    simp only [regionPut] at h
    split at h
    · simpa using h
    · split at h
      · rcases List.mem_cons.1 h with h | h
        · exact .inl h
        · exact .inr (List.mem_cons_of_mem _ h)
      · rcases List.mem_cons.1 h with h | h
        · exact .inr (by simp [h])
        · exact (ih h).imp_right (List.mem_cons_of_mem _)

theorem regionPut_rising {m : Memory} (r : Region)
    (h : m.Pairwise fun a b => a.handle < b.handle) :
    (regionPut m r).Pairwise fun a b => a.handle < b.handle := by
  induction m with
  | nil => simp [regionPut]
  | cons x xs ih =>
    obtain ⟨h1, h2⟩ := List.pairwise_cons.1 h
    simp only [regionPut]
    split
    · rename_i hlt
      refine List.pairwise_cons.2 ⟨fun c hc => ?_, h⟩
      rcases List.mem_cons.1 hc with rfl | hc
      · exact hlt
      · exact lt_trans hlt (h1 c hc)
    · split
      · rename_i heq
        exact List.pairwise_cons.2 ⟨fun c hc => heq ▸ h1 c hc, h2⟩
      · rename_i hlt hne
        refine List.pairwise_cons.2 ⟨fun c hc => ?_, ih h2⟩
        rcases mem_regionPut hc with rfl | hc
        · have : x.handle ≠ c.handle := fun h => hne h.symm
          omega
        · exact h1 c hc

/-- Putting a region in canonical form keeps the canonical form. -/
theorem regionPut_wf {m : Memory} {r : Region} (hm : Memory.wf m) (hr : Region.wf r) :
    Memory.wf (regionPut m r) := by
  refine ⟨regionPut_rising r hm.1, fun x hx => ?_⟩
  rcases mem_regionPut hx with rfl | hx
  · exact hr
  · exact hm.2 x hx

/-- Dropping a region keeps the canonical form. -/
theorem regionDrop_wf {m : Memory} (h : Nat) (hm : Memory.wf m) : Memory.wf (regionDrop m h) :=
  ⟨hm.1.filter _, fun x hx => hm.2 x (List.mem_filter.1 hx).1⟩

/-- Listing a byte below the capacity keeps a region's canonical form. -/
theorem cellSet_wf {r : Region} {i : Nat} (b : Byte) (hr : Region.wf r) (hi : i < r.cap) :
    Region.wf { r with cells := cellSet r.cells i b } := by
  refine ⟨hr.1, cellSet_rising i b hr.2.1, fun c hc => ?_⟩
  rcases mem_cellSet hc with rfl | hc
  · exact hi
  · exact hr.2.2 c hc

/-- All that a byte write does (R62): it needs a live region and an offset below the capacity, and it changes that
region's cells alone. -/
theorem writeByte_cases {m m' : Memory} {h : Nat} {i : Nat} {b : Byte} (hw : writeByte m h i b = some m') :
    ∃ r, regionGet m h = some r ∧ i < r.cap ∧ m' = regionPut m { r with cells := cellSet r.cells i b } ∧
      regionGet m' h = some { r with cells := cellSet r.cells i b } ∧
      ∀ g, g ≠ h → regionGet m' g = regionGet m g := by
  unfold writeByte at hw
  split at hw
  · cases hw
  · rename_i r hr
    split at hw
    · rename_i hi
      cases hw
      have hh := regionGet_handle hr
      subst hh
      exact ⟨r, hr, hi, rfl, regionGet_regionPut_same m { r with cells := cellSet r.cells i b },
        fun g hg => regionGet_regionPut_other m { r with cells := cellSet r.cells i b } hg⟩
    · cases hw

/-- A byte write keeps the canonical form. -/
theorem writeByte_wf {m m' : Memory} {h : Nat} {i : Nat} {b : Byte} (hm : Memory.wf m)
    (hw : writeByte m h i b = some m') : Memory.wf m' := by
  obtain ⟨r, hr, hi, rfl, -, -⟩ := writeByte_cases hw
  exact regionPut_wf hm (cellSet_wf b (hm.2 r (regionGet_mem hr)) hi)

/-- A newly granted region is in canonical form. -/
theorem newRegion_wf {h size : Nat} (zero : Bool) (seed : Nat) (hh : h ≠ nullHandle) :
    Region.wf (newRegion h size zero seed) := by
  refine ⟨hh, ?_, ?_⟩
  · cases zero <;> simp [newRegion, zeroCells_rising]
  · cases zero
    · simp [newRegion]
    · intro c hc; exact (zeroCells_fst hc).2.1

/-- A grown region is in canonical form. -/
theorem grownRegion_wf {r : Region} {h size : Nat} (zero : Bool) (hr : Region.wf r) (hh : h ≠ nullHandle)
    (hs : r.cap < size) : Region.wf (grownRegion r h size zero) := by
  obtain ⟨-, h3, h4⟩ := hr
  refine ⟨hh, ?_, ?_⟩
  · cases zero
    · simpa [grownRegion] using h3
    · simp only [grownRegion, if_true]
      refine List.pairwise_append.2 ⟨h3, zeroCells_rising _ _, fun a ha b hb => ?_⟩
      exact lt_of_lt_of_le (h4 a ha) (zeroCells_fst hb).1
  · intro c hc
    cases zero
    · exact lt_trans (h4 c (by simpa [grownRegion] using hc)) hs
    · simp only [grownRegion, if_true, List.mem_append] at hc
      rcases hc with hc | hc
      · exact lt_trans (h4 c hc) hs
      · exact (zeroCells_fst hc).2.1

/-! ### Bytes -/

/-- A write succeeds exactly where a read does (R62). -/
theorem writeByte_isSome (m : Memory) (h : Nat) (i : Nat) (b : Byte) :
    (writeByte m h i b).isSome = (readByte m h i).isSome := by
  unfold writeByte readByte
  split
  · rfl
  · split <;> rfl

/-- A byte reads as last written. -/
theorem readByte_writeByte_same {m m' : Memory} {h : Nat} {i : Nat} {b : Byte}
    (hw : writeByte m h i b = some m') : readByte m' h i = some b := by
  obtain ⟨r, -, hi, -, hg, -⟩ := writeByte_cases hw
  simp [readByte, hg, hi, Region.byteAt, cellGet_cellSet_same]

/-- A write leaves every other byte alone. -/
theorem readByte_writeByte_other {m m' : Memory} {h g : Nat} {i j : Nat} {b : Byte}
    (hw : writeByte m h i b = some m') (hne : ¬(g = h ∧ j = i)) : readByte m' g j = readByte m g j := by
  obtain ⟨r, hr, -, -, hs, ho⟩ := writeByte_cases hw
  by_cases hg : g = h
  · subst hg
    have hj : j ≠ i := fun e => hne ⟨rfl, e⟩
    simp [readByte, hs, hr, Region.byteAt, cellGet_cellSet_other _ _ hj]
  · simp [readByte, ho g hg]

/-- A write keeps which regions are live, their capacities and their origin. -/
theorem regionGet_writeByte {m m' : Memory} {h : Nat} {i : Nat} {b : Byte}
    (hw : writeByte m h i b = some m') (g : Nat) :
    (regionGet m' g).map (fun r => (r.cap, r.granted)) = (regionGet m g).map (fun r => (r.cap, r.granted)) := by
  obtain ⟨r, hr, -, -, hs, ho⟩ := writeByte_cases hw
  by_cases hg : g = h
  · subst hg; simp [hs, hr]
  · simp [ho g hg]

end Sys2Proof.Machine
end

