-- ==== Sys2Proof/Laws/State.lean ====
section
/-! SUPPORT. One lemma per field per update of the state. -/

namespace Sys2Proof.Machine

open Sys2Proof

@[simp] theorem State.withMem_sizeW (s : State) (m : Memory) : (s.withMem m).sizeW = s.sizeW := rfl
@[simp] theorem State.withMem_rom (s : State) (m : Memory) : (s.withMem m).rom = s.rom := rfl
@[simp] theorem State.withMem_dt (s : State) (m : Memory) : (s.withMem m).dt = s.dt := rfl
@[simp] theorem State.withMem_dtValid (s : State) (m : Memory) : (s.withMem m).dtValid = s.dtValid := rfl
@[simp] theorem State.withMem_busy (s : State) (m : Memory) : (s.withMem m).busy = s.busy := rfl
@[simp] theorem State.withMem_phase (s : State) (m : Memory) : (s.withMem m).phase = s.phase := rfl
@[simp] theorem State.withMem_inPtr (s : State) (m : Memory) : (s.withMem m).inPtr = s.inPtr := rfl
@[simp] theorem State.withMem_inLen (s : State) (m : Memory) : (s.withMem m).inLen = s.inLen := rfl
@[simp] theorem State.withMem_outPtr (s : State) (m : Memory) : (s.withMem m).outPtr = s.outPtr := rfl
@[simp] theorem State.withMem_outCap (s : State) (m : Memory) : (s.withMem m).outCap = s.outCap := rfl
@[simp] theorem State.withMem_resKind (s : State) (m : Memory) : (s.withMem m).resKind = s.resKind := rfl
@[simp] theorem State.withMem_resPtr (s : State) (m : Memory) : (s.withMem m).resPtr = s.resPtr := rfl
@[simp] theorem State.withMem_resLen (s : State) (m : Memory) : (s.withMem m).resLen = s.resLen := rfl
@[simp] theorem State.withMem_resCap (s : State) (m : Memory) : (s.withMem m).resCap = s.resCap := rfl
@[simp] theorem State.withMem_work (s : State) (m : Memory) : (s.withMem m).work = s.work := rfl
@[simp] theorem State.withMem_mem (s : State) (m : Memory) : (s.withMem m).mem = m := rfl
@[simp] theorem State.withMem_answers (s : State) (m : Memory) : (s.withMem m).answers = s.answers := rfl
@[simp] theorem State.withMem_requests (s : State) (m : Memory) : (s.withMem m).requests = s.requests := rfl
@[simp] theorem State.withMem_ret (s : State) (m : Memory) : (s.withMem m).ret = s.ret := rfl
@[simp] theorem State.withMem_hostData (s : State) (m : Memory) : (s.withMem m).hostData = s.hostData := rfl
@[simp] theorem State.withMem_agenda (s : State) (m : Memory) : (s.withMem m).agenda = s.agenda := rfl
@[simp] theorem State.withMem_freeNext (s : State) (m : Memory) : (s.withMem m).freeNext = s.freeNext := rfl

@[simp] theorem State.withWork_sizeW (s : State) (w : Work) : (s.withWork w).sizeW = s.sizeW := rfl
@[simp] theorem State.withWork_rom (s : State) (w : Work) : (s.withWork w).rom = s.rom := rfl
@[simp] theorem State.withWork_dt (s : State) (w : Work) : (s.withWork w).dt = s.dt := rfl
@[simp] theorem State.withWork_dtValid (s : State) (w : Work) : (s.withWork w).dtValid = s.dtValid := rfl
@[simp] theorem State.withWork_busy (s : State) (w : Work) : (s.withWork w).busy = s.busy := rfl
@[simp] theorem State.withWork_phase (s : State) (w : Work) : (s.withWork w).phase = s.phase := rfl
@[simp] theorem State.withWork_inPtr (s : State) (w : Work) : (s.withWork w).inPtr = s.inPtr := rfl
@[simp] theorem State.withWork_inLen (s : State) (w : Work) : (s.withWork w).inLen = s.inLen := rfl
@[simp] theorem State.withWork_outPtr (s : State) (w : Work) : (s.withWork w).outPtr = s.outPtr := rfl
@[simp] theorem State.withWork_outCap (s : State) (w : Work) : (s.withWork w).outCap = s.outCap := rfl
@[simp] theorem State.withWork_resKind (s : State) (w : Work) : (s.withWork w).resKind = s.resKind := rfl
@[simp] theorem State.withWork_resPtr (s : State) (w : Work) : (s.withWork w).resPtr = s.resPtr := rfl
@[simp] theorem State.withWork_resLen (s : State) (w : Work) : (s.withWork w).resLen = s.resLen := rfl
@[simp] theorem State.withWork_resCap (s : State) (w : Work) : (s.withWork w).resCap = s.resCap := rfl
@[simp] theorem State.withWork_work (s : State) (w : Work) : (s.withWork w).work = w := rfl
@[simp] theorem State.withWork_mem (s : State) (w : Work) : (s.withWork w).mem = s.mem := rfl
@[simp] theorem State.withWork_answers (s : State) (w : Work) : (s.withWork w).answers = s.answers := rfl
@[simp] theorem State.withWork_requests (s : State) (w : Work) : (s.withWork w).requests = s.requests := rfl
@[simp] theorem State.withWork_ret (s : State) (w : Work) : (s.withWork w).ret = s.ret := rfl
@[simp] theorem State.withWork_hostData (s : State) (w : Work) : (s.withWork w).hostData = s.hostData := rfl
@[simp] theorem State.withWork_agenda (s : State) (w : Work) : (s.withWork w).agenda = s.agenda := rfl
@[simp] theorem State.withWork_freeNext (s : State) (w : Work) : (s.withWork w).freeNext = s.freeNext := rfl

@[simp] theorem State.withPhase_sizeW (s : State) (p : Phase) : (s.withPhase p).sizeW = s.sizeW := rfl
@[simp] theorem State.withPhase_rom (s : State) (p : Phase) : (s.withPhase p).rom = s.rom := rfl
@[simp] theorem State.withPhase_dt (s : State) (p : Phase) : (s.withPhase p).dt = s.dt := rfl
@[simp] theorem State.withPhase_dtValid (s : State) (p : Phase) : (s.withPhase p).dtValid = s.dtValid := rfl
@[simp] theorem State.withPhase_busy (s : State) (p : Phase) : (s.withPhase p).busy = s.busy := rfl
@[simp] theorem State.withPhase_phase (s : State) (p : Phase) : (s.withPhase p).phase = p := rfl
@[simp] theorem State.withPhase_inPtr (s : State) (p : Phase) : (s.withPhase p).inPtr = s.inPtr := rfl
@[simp] theorem State.withPhase_inLen (s : State) (p : Phase) : (s.withPhase p).inLen = s.inLen := rfl
@[simp] theorem State.withPhase_outPtr (s : State) (p : Phase) : (s.withPhase p).outPtr = s.outPtr := rfl
@[simp] theorem State.withPhase_outCap (s : State) (p : Phase) : (s.withPhase p).outCap = s.outCap := rfl
@[simp] theorem State.withPhase_resKind (s : State) (p : Phase) : (s.withPhase p).resKind = s.resKind := rfl
@[simp] theorem State.withPhase_resPtr (s : State) (p : Phase) : (s.withPhase p).resPtr = s.resPtr := rfl
@[simp] theorem State.withPhase_resLen (s : State) (p : Phase) : (s.withPhase p).resLen = s.resLen := rfl
@[simp] theorem State.withPhase_resCap (s : State) (p : Phase) : (s.withPhase p).resCap = s.resCap := rfl
@[simp] theorem State.withPhase_work (s : State) (p : Phase) : (s.withPhase p).work = s.work := rfl
@[simp] theorem State.withPhase_mem (s : State) (p : Phase) : (s.withPhase p).mem = s.mem := rfl
@[simp] theorem State.withPhase_answers (s : State) (p : Phase) : (s.withPhase p).answers = s.answers := rfl
@[simp] theorem State.withPhase_requests (s : State) (p : Phase) : (s.withPhase p).requests = s.requests := rfl
@[simp] theorem State.withPhase_ret (s : State) (p : Phase) : (s.withPhase p).ret = s.ret := rfl
@[simp] theorem State.withPhase_hostData (s : State) (p : Phase) : (s.withPhase p).hostData = s.hostData := rfl
@[simp] theorem State.withPhase_agenda (s : State) (p : Phase) : (s.withPhase p).agenda = s.agenda := rfl
@[simp] theorem State.withPhase_freeNext (s : State) (p : Phase) : (s.withPhase p).freeNext = s.freeNext := rfl

@[simp] theorem State.withRet_sizeW (s : State) (r : Ret) : (s.withRet r).sizeW = s.sizeW := rfl
@[simp] theorem State.withRet_rom (s : State) (r : Ret) : (s.withRet r).rom = s.rom := rfl
@[simp] theorem State.withRet_dt (s : State) (r : Ret) : (s.withRet r).dt = s.dt := rfl
@[simp] theorem State.withRet_dtValid (s : State) (r : Ret) : (s.withRet r).dtValid = s.dtValid := rfl
@[simp] theorem State.withRet_busy (s : State) (r : Ret) : (s.withRet r).busy = s.busy := rfl
@[simp] theorem State.withRet_phase (s : State) (r : Ret) : (s.withRet r).phase = s.phase := rfl
@[simp] theorem State.withRet_inPtr (s : State) (r : Ret) : (s.withRet r).inPtr = s.inPtr := rfl
@[simp] theorem State.withRet_inLen (s : State) (r : Ret) : (s.withRet r).inLen = s.inLen := rfl
@[simp] theorem State.withRet_outPtr (s : State) (r : Ret) : (s.withRet r).outPtr = s.outPtr := rfl
@[simp] theorem State.withRet_outCap (s : State) (r : Ret) : (s.withRet r).outCap = s.outCap := rfl
@[simp] theorem State.withRet_resKind (s : State) (r : Ret) : (s.withRet r).resKind = s.resKind := rfl
@[simp] theorem State.withRet_resPtr (s : State) (r : Ret) : (s.withRet r).resPtr = s.resPtr := rfl
@[simp] theorem State.withRet_resLen (s : State) (r : Ret) : (s.withRet r).resLen = s.resLen := rfl
@[simp] theorem State.withRet_resCap (s : State) (r : Ret) : (s.withRet r).resCap = s.resCap := rfl
@[simp] theorem State.withRet_work (s : State) (r : Ret) : (s.withRet r).work = s.work := rfl
@[simp] theorem State.withRet_mem (s : State) (r : Ret) : (s.withRet r).mem = s.mem := rfl
@[simp] theorem State.withRet_answers (s : State) (r : Ret) : (s.withRet r).answers = s.answers := rfl
@[simp] theorem State.withRet_requests (s : State) (r : Ret) : (s.withRet r).requests = s.requests := rfl
@[simp] theorem State.withRet_ret (s : State) (r : Ret) : (s.withRet r).ret = r := rfl
@[simp] theorem State.withRet_hostData (s : State) (r : Ret) : (s.withRet r).hostData = s.hostData := rfl
@[simp] theorem State.withRet_agenda (s : State) (r : Ret) : (s.withRet r).agenda = s.agenda := rfl
@[simp] theorem State.withRet_freeNext (s : State) (r : Ret) : (s.withRet r).freeNext = s.freeNext := rfl

@[simp] theorem State.withRequest_sizeW (s : State) (r : Request) : (s.withRequest r).sizeW = s.sizeW := rfl
@[simp] theorem State.withRequest_rom (s : State) (r : Request) : (s.withRequest r).rom = s.rom := rfl
@[simp] theorem State.withRequest_dt (s : State) (r : Request) : (s.withRequest r).dt = s.dt := rfl
@[simp] theorem State.withRequest_dtValid (s : State) (r : Request) : (s.withRequest r).dtValid = s.dtValid := rfl
@[simp] theorem State.withRequest_busy (s : State) (r : Request) : (s.withRequest r).busy = s.busy := rfl
@[simp] theorem State.withRequest_phase (s : State) (r : Request) : (s.withRequest r).phase = s.phase := rfl
@[simp] theorem State.withRequest_inPtr (s : State) (r : Request) : (s.withRequest r).inPtr = s.inPtr := rfl
@[simp] theorem State.withRequest_inLen (s : State) (r : Request) : (s.withRequest r).inLen = s.inLen := rfl
@[simp] theorem State.withRequest_outPtr (s : State) (r : Request) : (s.withRequest r).outPtr = s.outPtr := rfl
@[simp] theorem State.withRequest_outCap (s : State) (r : Request) : (s.withRequest r).outCap = s.outCap := rfl
@[simp] theorem State.withRequest_resKind (s : State) (r : Request) : (s.withRequest r).resKind = s.resKind := rfl
@[simp] theorem State.withRequest_resPtr (s : State) (r : Request) : (s.withRequest r).resPtr = s.resPtr := rfl
@[simp] theorem State.withRequest_resLen (s : State) (r : Request) : (s.withRequest r).resLen = s.resLen := rfl
@[simp] theorem State.withRequest_resCap (s : State) (r : Request) : (s.withRequest r).resCap = s.resCap := rfl
@[simp] theorem State.withRequest_work (s : State) (r : Request) : (s.withRequest r).work = s.work := rfl
@[simp] theorem State.withRequest_mem (s : State) (r : Request) : (s.withRequest r).mem = s.mem := rfl
@[simp] theorem State.withRequest_answers (s : State) (r : Request) : (s.withRequest r).answers = s.answers := rfl
@[simp] theorem State.withRequest_requests (s : State) (r : Request) : (s.withRequest r).requests = r :: s.requests := rfl
@[simp] theorem State.withRequest_ret (s : State) (r : Request) : (s.withRequest r).ret = s.ret := rfl
@[simp] theorem State.withRequest_hostData (s : State) (r : Request) : (s.withRequest r).hostData = s.hostData := rfl
@[simp] theorem State.withRequest_agenda (s : State) (r : Request) : (s.withRequest r).agenda = s.agenda := rfl
@[simp] theorem State.withRequest_freeNext (s : State) (r : Request) : (s.withRequest r).freeNext = s.freeNext := rfl

@[simp] theorem State.useFree_sizeW (s : State) (n : Nat) : (s.useFree n).sizeW = s.sizeW := rfl
@[simp] theorem State.useFree_rom (s : State) (n : Nat) : (s.useFree n).rom = s.rom := rfl
@[simp] theorem State.useFree_dt (s : State) (n : Nat) : (s.useFree n).dt = s.dt := rfl
@[simp] theorem State.useFree_dtValid (s : State) (n : Nat) : (s.useFree n).dtValid = s.dtValid := rfl
@[simp] theorem State.useFree_busy (s : State) (n : Nat) : (s.useFree n).busy = s.busy := rfl
@[simp] theorem State.useFree_phase (s : State) (n : Nat) : (s.useFree n).phase = s.phase := rfl
@[simp] theorem State.useFree_inPtr (s : State) (n : Nat) : (s.useFree n).inPtr = s.inPtr := rfl
@[simp] theorem State.useFree_inLen (s : State) (n : Nat) : (s.useFree n).inLen = s.inLen := rfl
@[simp] theorem State.useFree_outPtr (s : State) (n : Nat) : (s.useFree n).outPtr = s.outPtr := rfl
@[simp] theorem State.useFree_outCap (s : State) (n : Nat) : (s.useFree n).outCap = s.outCap := rfl
@[simp] theorem State.useFree_resKind (s : State) (n : Nat) : (s.useFree n).resKind = s.resKind := rfl
@[simp] theorem State.useFree_resPtr (s : State) (n : Nat) : (s.useFree n).resPtr = s.resPtr := rfl
@[simp] theorem State.useFree_resLen (s : State) (n : Nat) : (s.useFree n).resLen = s.resLen := rfl
@[simp] theorem State.useFree_resCap (s : State) (n : Nat) : (s.useFree n).resCap = s.resCap := rfl
@[simp] theorem State.useFree_work (s : State) (n : Nat) : (s.useFree n).work = s.work := rfl
@[simp] theorem State.useFree_mem (s : State) (n : Nat) : (s.useFree n).mem = s.mem := rfl
@[simp] theorem State.useFree_answers (s : State) (n : Nat) : (s.useFree n).answers = s.answers := rfl
@[simp] theorem State.useFree_requests (s : State) (n : Nat) : (s.useFree n).requests = s.requests := rfl
@[simp] theorem State.useFree_ret (s : State) (n : Nat) : (s.useFree n).ret = s.ret := rfl
@[simp] theorem State.useFree_hostData (s : State) (n : Nat) : (s.useFree n).hostData = s.hostData := rfl
@[simp] theorem State.useFree_agenda (s : State) (n : Nat) : (s.useFree n).agenda = s.agenda := rfl
@[simp] theorem State.useFree_freeNext (s : State) (n : Nat) : (s.useFree n).freeNext = s.freeNext + n := rfl

@[simp] theorem State.withHostData_sizeW (s : State) (v : Nat) : (s.withHostData v).sizeW = s.sizeW := rfl
@[simp] theorem State.withHostData_rom (s : State) (v : Nat) : (s.withHostData v).rom = s.rom := rfl
@[simp] theorem State.withHostData_dt (s : State) (v : Nat) : (s.withHostData v).dt = s.dt := rfl
@[simp] theorem State.withHostData_dtValid (s : State) (v : Nat) : (s.withHostData v).dtValid = s.dtValid := rfl
@[simp] theorem State.withHostData_busy (s : State) (v : Nat) : (s.withHostData v).busy = s.busy := rfl
@[simp] theorem State.withHostData_phase (s : State) (v : Nat) : (s.withHostData v).phase = s.phase := rfl
@[simp] theorem State.withHostData_inPtr (s : State) (v : Nat) : (s.withHostData v).inPtr = s.inPtr := rfl
@[simp] theorem State.withHostData_inLen (s : State) (v : Nat) : (s.withHostData v).inLen = s.inLen := rfl
@[simp] theorem State.withHostData_outPtr (s : State) (v : Nat) : (s.withHostData v).outPtr = s.outPtr := rfl
@[simp] theorem State.withHostData_outCap (s : State) (v : Nat) : (s.withHostData v).outCap = s.outCap := rfl
@[simp] theorem State.withHostData_resKind (s : State) (v : Nat) : (s.withHostData v).resKind = s.resKind := rfl
@[simp] theorem State.withHostData_resPtr (s : State) (v : Nat) : (s.withHostData v).resPtr = s.resPtr := rfl
@[simp] theorem State.withHostData_resLen (s : State) (v : Nat) : (s.withHostData v).resLen = s.resLen := rfl
@[simp] theorem State.withHostData_resCap (s : State) (v : Nat) : (s.withHostData v).resCap = s.resCap := rfl
@[simp] theorem State.withHostData_work (s : State) (v : Nat) : (s.withHostData v).work = s.work := rfl
@[simp] theorem State.withHostData_mem (s : State) (v : Nat) : (s.withHostData v).mem = s.mem := rfl
@[simp] theorem State.withHostData_answers (s : State) (v : Nat) : (s.withHostData v).answers = s.answers := rfl
@[simp] theorem State.withHostData_requests (s : State) (v : Nat) : (s.withHostData v).requests = s.requests := rfl
@[simp] theorem State.withHostData_ret (s : State) (v : Nat) : (s.withHostData v).ret = s.ret := rfl
@[simp] theorem State.withHostData_hostData (s : State) (v : Nat) : (s.withHostData v).hostData = v := rfl
@[simp] theorem State.withHostData_agenda (s : State) (v : Nat) : (s.withHostData v).agenda = s.agenda := rfl
@[simp] theorem State.withHostData_freeNext (s : State) (v : Nat) : (s.withHostData v).freeNext = s.freeNext := rfl

@[simp] theorem State.forgetWork_sizeW (s : State) : (s.forgetWork).sizeW = s.sizeW := rfl
@[simp] theorem State.forgetWork_rom (s : State) : (s.forgetWork).rom = s.rom := rfl
@[simp] theorem State.forgetWork_dt (s : State) : (s.forgetWork).dt = s.dt := rfl
@[simp] theorem State.forgetWork_dtValid (s : State) : (s.forgetWork).dtValid = s.dtValid := rfl
@[simp] theorem State.forgetWork_busy (s : State) : (s.forgetWork).busy = s.busy := rfl
@[simp] theorem State.forgetWork_phase (s : State) : (s.forgetWork).phase = s.phase := rfl
@[simp] theorem State.forgetWork_inPtr (s : State) : (s.forgetWork).inPtr = s.inPtr := rfl
@[simp] theorem State.forgetWork_inLen (s : State) : (s.forgetWork).inLen = s.inLen := rfl
@[simp] theorem State.forgetWork_outPtr (s : State) : (s.forgetWork).outPtr = s.outPtr := rfl
@[simp] theorem State.forgetWork_outCap (s : State) : (s.forgetWork).outCap = s.outCap := rfl
@[simp] theorem State.forgetWork_resKind (s : State) : (s.forgetWork).resKind = s.resKind := rfl
@[simp] theorem State.forgetWork_resPtr (s : State) : (s.forgetWork).resPtr = s.resPtr := rfl
@[simp] theorem State.forgetWork_resLen (s : State) : (s.forgetWork).resLen = s.resLen := rfl
@[simp] theorem State.forgetWork_resCap (s : State) : (s.forgetWork).resCap = s.resCap := rfl
@[simp] theorem State.forgetWork_work (s : State) : (s.forgetWork).work = Work.unspecified s.sizeW s.freeNext := rfl
@[simp] theorem State.forgetWork_mem (s : State) : (s.forgetWork).mem = s.mem := rfl
@[simp] theorem State.forgetWork_answers (s : State) : (s.forgetWork).answers = s.answers := rfl
@[simp] theorem State.forgetWork_requests (s : State) : (s.forgetWork).requests = s.requests := rfl
@[simp] theorem State.forgetWork_ret (s : State) : (s.forgetWork).ret = s.ret := rfl
@[simp] theorem State.forgetWork_hostData (s : State) : (s.forgetWork).hostData = s.hostData := rfl
@[simp] theorem State.forgetWork_agenda (s : State) : (s.forgetWork).agenda = s.agenda := rfl
@[simp] theorem State.forgetWork_freeNext (s : State) : (s.forgetWork).freeNext = s.freeNext + 14 := rfl

@[simp] theorem endCommand_sizeW (k : Kind) (ptr len cap : Nat) (s : State) : (endCommand k ptr len cap s).sizeW = s.sizeW := rfl
@[simp] theorem endCommand_rom (k : Kind) (ptr len cap : Nat) (s : State) : (endCommand k ptr len cap s).rom = s.rom := rfl
@[simp] theorem endCommand_dt (k : Kind) (ptr len cap : Nat) (s : State) : (endCommand k ptr len cap s).dt = s.dt := rfl
@[simp] theorem endCommand_dtValid (k : Kind) (ptr len cap : Nat) (s : State) : (endCommand k ptr len cap s).dtValid = s.dtValid := rfl
@[simp] theorem endCommand_busy (k : Kind) (ptr len cap : Nat) (s : State) : (endCommand k ptr len cap s).busy = false := rfl
@[simp] theorem endCommand_phase (k : Kind) (ptr len cap : Nat) (s : State) : (endCommand k ptr len cap s).phase = .idle := rfl
@[simp] theorem endCommand_inPtr (k : Kind) (ptr len cap : Nat) (s : State) : (endCommand k ptr len cap s).inPtr = s.inPtr := rfl
@[simp] theorem endCommand_inLen (k : Kind) (ptr len cap : Nat) (s : State) : (endCommand k ptr len cap s).inLen = s.inLen := rfl
@[simp] theorem endCommand_outPtr (k : Kind) (ptr len cap : Nat) (s : State) : (endCommand k ptr len cap s).outPtr = s.outPtr := rfl
@[simp] theorem endCommand_outCap (k : Kind) (ptr len cap : Nat) (s : State) : (endCommand k ptr len cap s).outCap = s.outCap := rfl
@[simp] theorem endCommand_resKind (k : Kind) (ptr len cap : Nat) (s : State) : (endCommand k ptr len cap s).resKind = kindCode k := rfl
@[simp] theorem endCommand_resPtr (k : Kind) (ptr len cap : Nat) (s : State) : (endCommand k ptr len cap s).resPtr = ptr := rfl
@[simp] theorem endCommand_resLen (k : Kind) (ptr len cap : Nat) (s : State) : (endCommand k ptr len cap s).resLen = len := rfl
@[simp] theorem endCommand_resCap (k : Kind) (ptr len cap : Nat) (s : State) : (endCommand k ptr len cap s).resCap = cap := rfl
@[simp] theorem endCommand_work (k : Kind) (ptr len cap : Nat) (s : State) : (endCommand k ptr len cap s).work = Work.unspecified s.sizeW s.freeNext := rfl
@[simp] theorem endCommand_mem (k : Kind) (ptr len cap : Nat) (s : State) : (endCommand k ptr len cap s).mem = s.mem := rfl
@[simp] theorem endCommand_answers (k : Kind) (ptr len cap : Nat) (s : State) : (endCommand k ptr len cap s).answers = s.answers := rfl
@[simp] theorem endCommand_requests (k : Kind) (ptr len cap : Nat) (s : State) : (endCommand k ptr len cap s).requests = s.requests := rfl
@[simp] theorem endCommand_ret (k : Kind) (ptr len cap : Nat) (s : State) : (endCommand k ptr len cap s).ret = .none := rfl
@[simp] theorem endCommand_hostData (k : Kind) (ptr len cap : Nat) (s : State) : (endCommand k ptr len cap s).hostData = s.hostData := rfl
@[simp] theorem endCommand_agenda (k : Kind) (ptr len cap : Nat) (s : State) : (endCommand k ptr len cap s).agenda = s.agenda := rfl
@[simp] theorem endCommand_freeNext (k : Kind) (ptr len cap : Nat) (s : State) : (endCommand k ptr len cap s).freeNext = s.freeNext + 14 := rfl

@[simp] theorem beginCommand_sizeW (p : Phase) (s : State) : (beginCommand p s).sizeW = s.sizeW := rfl
@[simp] theorem beginCommand_rom (p : Phase) (s : State) : (beginCommand p s).rom = s.rom := rfl
@[simp] theorem beginCommand_dt (p : Phase) (s : State) : (beginCommand p s).dt = s.dt := rfl
@[simp] theorem beginCommand_dtValid (p : Phase) (s : State) : (beginCommand p s).dtValid = s.dtValid := rfl
@[simp] theorem beginCommand_busy (p : Phase) (s : State) : (beginCommand p s).busy = true := rfl
@[simp] theorem beginCommand_phase (p : Phase) (s : State) : (beginCommand p s).phase = p := rfl
@[simp] theorem beginCommand_inPtr (p : Phase) (s : State) : (beginCommand p s).inPtr = s.inPtr := rfl
@[simp] theorem beginCommand_inLen (p : Phase) (s : State) : (beginCommand p s).inLen = s.inLen := rfl
@[simp] theorem beginCommand_outPtr (p : Phase) (s : State) : (beginCommand p s).outPtr = s.outPtr := rfl
@[simp] theorem beginCommand_outCap (p : Phase) (s : State) : (beginCommand p s).outCap = s.outCap := rfl
@[simp] theorem beginCommand_resKind (p : Phase) (s : State) : (beginCommand p s).resKind = s.resKind := rfl
@[simp] theorem beginCommand_resPtr (p : Phase) (s : State) : (beginCommand p s).resPtr = s.resPtr := rfl
@[simp] theorem beginCommand_resLen (p : Phase) (s : State) : (beginCommand p s).resLen = s.resLen := rfl
@[simp] theorem beginCommand_resCap (p : Phase) (s : State) : (beginCommand p s).resCap = s.resCap := rfl
@[simp] theorem beginCommand_work (p : Phase) (s : State) : (beginCommand p s).work = Work.unspecified s.sizeW s.freeNext := rfl
@[simp] theorem beginCommand_mem (p : Phase) (s : State) : (beginCommand p s).mem = s.mem := rfl
@[simp] theorem beginCommand_answers (p : Phase) (s : State) : (beginCommand p s).answers = s.answers := rfl
@[simp] theorem beginCommand_requests (p : Phase) (s : State) : (beginCommand p s).requests = s.requests := rfl
@[simp] theorem beginCommand_ret (p : Phase) (s : State) : (beginCommand p s).ret = .none := rfl
@[simp] theorem beginCommand_hostData (p : Phase) (s : State) : (beginCommand p s).hostData = s.hostData := rfl
@[simp] theorem beginCommand_agenda (p : Phase) (s : State) : (beginCommand p s).agenda = s.agenda := rfl
@[simp] theorem beginCommand_freeNext (p : Phase) (s : State) : (beginCommand p s).freeNext = s.freeNext + 14 := rfl

@[simp] theorem WReg.wr_value {α : Type} (v : α) : (WReg.wr v).value = v := rfl
@[simp] theorem WReg.wr_written {α : Type} (v : α) : (WReg.wr v).written = true := rfl
@[simp] theorem WReg.unspecified_written (n k : Nat) : (WReg.unspecified n k).written = false := rfl
@[simp] theorem WReg.unspecifiedWord_written (w k : Nat) : (WReg.unspecifiedWord w k).written = false := rfl

/-- A free value of a register of `w` bits fits it. -/
theorem WReg.unspecifiedWord_fits (w k : Nat) : (WReg.unspecifiedWord w k).value < 2 ^ w := (Config.freeBits w k).isLt

/-- No working register counts as written once a command has ended or begun (R25). -/
@[simp] theorem Work.unspecified_isWritten (w k : Nat) (r : WName) : (Work.unspecified w k).isWritten r = false := by cases r <;> rfl

end Sys2Proof.Machine
end

