-- ==== Sys2Proof/Laws/Ops.lean ====
section
/-! SUPPORT. What each shared operation can do, said once. -/

namespace Sys2Proof.Machine

open Sys2Proof

/-! ### Registers -/

theorem needs_ok_iff (s : State) (rs : List WName) :
    needs s rs = .ok () ↔ ∀ r ∈ rs, s.work.isWritten r = true := by
  unfold needs
  split
  · rename_i r hr
    have h1 := List.find?_some hr
    have h2 := List.mem_of_find?_eq_some hr
    constructor
    · intro h; cases h
    · intro h; simp [h r h2] at h1
  · rename_i hr
    simpa using hr

theorem fit_ok_iff (w n : Nat) (v : Nat) : fit w n = .ok v ↔ n < 2 ^ w ∧ v = n := by
  unfold fit
  split
  · rename_i h
    exact ⟨fun e => ⟨h, (Except.ok.inj e).symm⟩, fun e => congrArg Except.ok e.2.symm⟩
  · rename_i h
    exact ⟨fun e => (by cases e), fun e => absurd e.1 h⟩

theorem fit_of_lt {w n : Nat} (h : n < 2 ^ w) : fit w n = .ok n := if_pos h

/-- A size that fits is stored as it is. -/
theorem fit_eq {w n : Nat} {v : Nat} (h : fit w n = .ok v) : v = n := ((fit_ok_iff w n v).1 h).2

theorem fit_lt {w n : Nat} {v : Nat} (h : fit w n = .ok v) : v < 2 ^ w := by
  obtain ⟨h1, rfl⟩ := (fit_ok_iff w n v).1 h; exact h1

theorem wordsFit_iff (s : State) (vs : List Nat) : wordsFit s vs = true ↔ ∀ v ∈ vs, v < 2 ^ s.sizeW := by
  simp [wordsFit]

/-! ### Regions -/

theorem isLive_iff (m : Memory) (h : Nat) : isLive m h = true ↔ ∃ r, regionGet m h = some r := by
  simp [isLive, Option.isSome_iff_exists]

theorem growable_iff (m : Memory) (h size : Nat) :
    growable m h size = true ↔ ∃ r, regionGet m h = some r ∧ r.cap < size := by
  unfold growable; split <;> simp_all

theorem handleFree_iff (w : Nat) (m : Memory) (h : Nat) :
    handleFree w m h = true ↔ h < 2 ^ w ∧ h ≠ nullHandle ∧ isLive m h = false := by
  simp [handleFree, and_assoc]

/-- A grant of `ALLOC` fits its register, names no live region and is not `NULL` (R61, R161). -/
theorem allocHandle_legal {w : Nat} {m : Memory} {h g : Nat} (ha : allocHandle w m h = some g) :
    g < 2 ^ w ∧ g ≠ nullHandle ∧ isLive m g = false := by
  unfold allocHandle at ha
  split at ha
  · rename_i hc; cases ha; exact (handleFree_iff w m h).1 hc
  · exact (handleFree_iff w m g).1 (List.find?_some ha)

/-- Every legal handle can be granted (R164 (b)). -/
theorem allocHandle_of_legal {w : Nat} {m : Memory} {h : Nat} (h0 : h < 2 ^ w) (h1 : h ≠ nullHandle)
    (h2 : isLive m h = false) : allocHandle w m h = some h :=
  if_pos ((handleFree_iff w m h).2 ⟨h0, h1, h2⟩)

/-- A grant of `GROW` keeps the handle, or fits its register and names no live region (R162). -/
theorem growHandle_legal (w : Nat) (m : Memory) (old h : Nat) :
    growHandle w m old h = old ∨ (growHandle w m old h < 2 ^ w ∧ growHandle w m old h ≠ nullHandle ∧
      isLive m (growHandle w m old h) = false) := by
  unfold growHandle
  split
  · rename_i hc; exact .inr ((handleFree_iff w m h).1 hc)
  · exact .inl rfl

/-! ### The allocator interface -/

/-- An answer changes the list of answers and the counter of free values alone. -/
theorem takeAnswer_frame (s : State) :
    (takeAnswer s).2 = { s with answers := s.answers.tail, freeNext := (takeAnswer s).2.freeNext } := by
  unfold takeAnswer
  split <;> simp_all [State.useFree]

theorem takeAnswer_mem (s : State) : (takeAnswer s).2.mem = s.mem := by rw [takeAnswer_frame]

theorem takeAnswer_cons {s : State} {a : Answer} {rest : List Answer} (h : s.answers = a :: rest) :
    takeAnswer s = (a, { s with answers := rest }) := by
  simp [takeAnswer, h]

/-- All that `ALLOC` does (R161): on a denial the regions are as before; on a grant there is one more, newly granted,
under a handle that was not live. -/
theorem reqAlloc_cases (size : Nat) (zero : Bool) (s : State) :
    ((reqAlloc size zero s).1 = none ∧ (reqAlloc size zero s).2.mem = s.mem) ∨
    ∃ g seed, (reqAlloc size zero s).1 = some g ∧ g < 2 ^ s.sizeW ∧ g ≠ nullHandle ∧ isLive s.mem g = false ∧
      (reqAlloc size zero s).2.mem = regionPut s.mem (newRegion g size zero seed) := by
  unfold reqAlloc
  simp only
  split
  · exact .inl ⟨rfl, by rw [takeAnswer_mem]; rfl⟩
  · split
    · exact .inl ⟨rfl, by rw [takeAnswer_mem]; rfl⟩
    · rename_i g hg
      obtain ⟨h0, h1, h2⟩ := allocHandle_legal hg
      exact .inr ⟨g, (takeAnswer (s.withRequest (.alloc size zero))).2.freeNext, rfl, h0, h1, h2, rfl⟩

/-- `ALLOC` changes only the regions, the answers, the requests and the counter of free values. -/
theorem reqAlloc_frame (size : Nat) (zero : Bool) (s : State) :
    (reqAlloc size zero s).2 = { s with
      mem := (reqAlloc size zero s).2.mem, answers := s.answers.tail,
      requests := .alloc size zero :: s.requests, freeNext := (reqAlloc size zero s).2.freeNext } := by
  have h := takeAnswer_frame (s.withRequest (.alloc size zero))
  unfold reqAlloc
  simp only
  split
  · rw [h]; rfl
  · split
    · rw [h]; rfl
    · rw [h]; rfl

/-- All that `GROW` does where it may be issued (R162). -/
theorem reqGrow_cases (h size : Nat) (zero : Bool) (s : State) :
    ((reqGrow h size zero s).1 = none ∧ (reqGrow h size zero s).2.mem = s.mem) ∨
    ∃ g r, (reqGrow h size zero s).1 = some g ∧ regionGet s.mem h = some r ∧
      (g = h ∨ (g < 2 ^ s.sizeW ∧ g ≠ nullHandle ∧ isLive s.mem g = false)) ∧
      (reqGrow h size zero s).2.mem = regionPut (regionDrop s.mem h) (grownRegion r g size zero) := by
  unfold reqGrow
  simp only
  split
  · rename_i g r _ hr
    exact .inr ⟨_, r, rfl, hr, growHandle_legal _ _ _ _, rfl⟩
  · exact .inl ⟨rfl, by rw [takeAnswer_mem]; rfl⟩

/-- `GROW` changes only the regions, the answers, the requests and the counter of free values. -/
theorem reqGrow_frame (h size : Nat) (zero : Bool) (s : State) :
    (reqGrow h size zero s).2 = { s with
      mem := (reqGrow h size zero s).2.mem, answers := s.answers.tail,
      requests := .grow h size zero :: s.requests, freeNext := (reqGrow h size zero s).2.freeNext } := by
  have hf := takeAnswer_frame (s.withRequest (.grow h size zero))
  unfold reqGrow
  simp only
  split
  · rw [hf]; rfl
  · rw [hf]; rfl

/-- `ALLOC_TABLE` changes only the answers, the requests and the counter of free values (R140). -/
theorem reqTable_frame (s : State) :
    (reqTable s).2 = { s with
      answers := s.answers.tail, requests := .allocTable :: s.requests, freeNext := (reqTable s).2.freeNext } := by
  have h := takeAnswer_frame (s.withRequest .allocTable)
  simp only [reqTable]
  rw [h]; rfl

/-- `ALLOC` keeps the canonical form. -/
theorem reqAlloc_wf (size : Nat) (zero : Bool) {s : State} (hm : Memory.wf s.mem) :
    Memory.wf (reqAlloc size zero s).2.mem := by
  rcases reqAlloc_cases size zero s with ⟨-, h⟩ | ⟨g, seed, -, -, hg, -, h⟩
  · rw [h]; exact hm
  · rw [h]; exact regionPut_wf hm (newRegion_wf zero seed hg)

/-- `GROW` keeps the canonical form where it may be issued. -/
theorem reqGrow_wf {h size : Nat} (zero : Bool) {s : State} (hm : Memory.wf s.mem)
    (hg : growable s.mem h size = true) : Memory.wf (reqGrow h size zero s).2.mem := by
  rcases reqGrow_cases h size zero s with ⟨-, hc⟩ | ⟨g, r, -, hr, hl, hc⟩
  · rw [hc]; exact hm
  · obtain ⟨r', hr', hlt⟩ := (growable_iff _ _ _).1 hg
    rw [hr] at hr'; cases hr'
    have hw := hm.2 r (regionGet_mem hr)
    have hgn : g ≠ nullHandle := by
      rcases hl with rfl | hl
      · rw [← regionGet_handle hr]; exact hw.1
      · exact hl.2.1
    rw [hc]
    exact regionPut_wf (regionDrop_wf _ hm) (grownRegion_wf zero hw hgn hlt)

/-- `RELEASE` keeps the canonical form. -/
theorem reqRelease_wf (h : Nat) {s : State} (hm : Memory.wf s.mem) : Memory.wf (reqRelease h s).mem :=
  regionDrop_wf h hm

/-! ### Region accesses of CORE -/

/-- All that `OUT[i] <- b` does (R62). -/
theorem outWrite_ok {s t : State} {i : Nat} {b : Byte} (h : outWrite s i b = .ok t) :
    ∃ m, writeByte s.mem s.work.obPtr.value i b = some m ∧ t = s.withMem m := by
  unfold outWrite at h
  split at h
  · rename_i m hm; cases h; exact ⟨m, hm, rfl⟩
  · cases h

/-- `OUT[i] <- b` keeps the canonical form. -/
theorem outWrite_wf {s t : State} {i : Nat} {b : Byte} (hm : Memory.wf s.mem) (h : outWrite s i b = .ok t) :
    Memory.wf t.mem := by
  obtain ⟨m, hw, rfl⟩ := outWrite_ok h
  exact writeByte_wf hm hw

/-! ### Outcomes -/

@[simp] theorem ofRun_ok (s : State) : ofRun (.ok s) = .next s := rfl

@[simp] theorem ofRun_error (f : Fault) : ofRun (.error f) = .fault f := rfl

theorem ofRun_next {r : Except Fault State} {t : State} (h : ofRun r = .next t) : r = .ok t := by
  cases r with
  | ok s => simpa [ofRun] using h
  | error f => simp [ofRun] at h

end Sys2Proof.Machine
end

