-- ==== Sys2Proof/Laws/OutputBuffer.lean ====
section
/-! SUPPORT. What the operations of the output buffer controller can do, said once. -/

namespace Sys2Proof.Machine

open Sys2Proof

/-- A check that passes is no step of its own. -/
@[simp] theorem needs_bind {α : Type} {s : State} {rs : List WName} (h : needs s rs = .ok ())
    (k : Unit → Except Fault α) : (needs s rs >>= k) = k () := by rw [h]; rfl

/-- The two results of `OB.ALLOC`. -/
theorem obAlloc_cases (size inc : Nat) (zero : Bool) (s : State) :
    ((obAlloc size inc zero s).1 = .fail ∧ (reqAlloc size zero s).1 = none ∧
        (obAlloc size inc zero s).2.mem = s.mem) ∨
      ∃ g, (obAlloc size inc zero s).1 = .done ∧ (reqAlloc size zero s).1 = some g ∧
        (obAlloc size inc zero s).2 =
          (reqAlloc size zero s).2.withWork (obRegisters g size inc zero (reqAlloc size zero s).2.work) := by
  unfold obAlloc
  split
  · rename_i h
    refine .inl ⟨rfl, h, ?_⟩
    rcases reqAlloc_cases size zero s with ⟨-, hm⟩ | ⟨g, -, hg, -⟩
    · simpa [State.useFree] using hm
    · rw [h] at hg; cases hg
  · rename_i g h
    exact .inr ⟨g, rfl, h, rfl⟩

/-- All that a completed `OB.GROW` can be. -/
theorem obGrow_ok {s t : State} {r : Ob} (h : obGrow s = .ok (r, t)) :
    ∃ size, fit s.sizeW (s.work.obCap.value + s.work.obInc.value) = .ok size ∧
      growable s.mem s.work.obPtr.value size = true ∧
      ((r = .fail ∧ (reqGrow s.work.obPtr.value size (obZeroFlag s) s).1 = none ∧
          t = (reqGrow s.work.obPtr.value size (obZeroFlag s) s).2) ∨
        ∃ g, r = .done ∧ (reqGrow s.work.obPtr.value size (obZeroFlag s) s).1 = some g ∧
          t = (reqGrow s.work.obPtr.value size (obZeroFlag s) s).2.withWork
            { (reqGrow s.work.obPtr.value size (obZeroFlag s) s).2.work with obPtr := .wr g, obCap := .wr size }) := by
  unfold obGrow at h
  cases hn : needs s [.obPtr, .obCap, .obInc, .obZero] with
  | error f => rw [hn] at h; cases h
  | ok u =>
    cases hf : fit s.sizeW (s.work.obCap.value + s.work.obInc.value) with
    | error f => rw [hn, hf] at h; cases h
    | ok size =>
      rw [hn, hf] at h
      refine ⟨size, rfl, ?_⟩
      simp only [bind, Except.bind] at h
      split at h
      · rename_i hg
        refine ⟨hg, ?_⟩
        split at h
        · rename_i hr; cases h; exact .inl ⟨rfl, hr, rfl⟩
        · rename_i g hr; cases h; exact .inr ⟨g, rfl, hr, rfl⟩
      · cases h

/-- All that a completed `OB.ENSURE` can be: nothing below the capacity, else one growth. -/
theorem obEnsure_ok {idx : Nat} {s t : State} {r : Ob} (h : obEnsure idx s = .ok (r, t)) :
    (idx < s.work.obCap.value ∧ r = .done ∧ t = s) ∨
      (s.work.obCap.value ≤ idx ∧ obGrow s = .ok (r, t)) := by
  unfold obEnsure at h
  cases hn : needs s [.obCap] with
  | error f => rw [hn] at h; cases h
  | ok u =>
    rw [hn] at h
    simp only [bind, Except.bind] at h
    split at h
    · rename_i hc; exact .inr ⟨hc, h⟩
    · rename_i hc; cases h; exact .inl ⟨Nat.lt_of_not_le hc, rfl, rfl⟩

/-- `OB.GROW` keeps the canonical form. -/
theorem obGrow_wf {s t : State} {r : Ob} (hm : Memory.wf s.mem) (h : obGrow s = .ok (r, t)) : Memory.wf t.mem := by
  obtain ⟨size, -, hg, ⟨-, -, rfl⟩ | ⟨g, -, -, rfl⟩⟩ := obGrow_ok h
  · exact reqGrow_wf _ hm hg
  · exact reqGrow_wf _ hm hg

end Sys2Proof.Machine
end

