-- ==== Sys2Proof/Laws/Fits.lean ====
section
/-! SUPPORT. Every handle and capacity fits `SIZE_W` bits: each operation over regions keeps it (R8, R61). -/

namespace Sys2Proof.Machine

open Sys2Proof

theorem regionPut_fits {w : Nat} {m : Memory} {r : Region} (hm : MemFits w m) (hr : r.handle < 2 ^ w ∧ r.cap < 2 ^ w) :
    MemFits w (regionPut m r) := by
  intro x hx
  rcases mem_regionPut hx with rfl | hx
  · exact hr
  · exact hm x hx

theorem regionDrop_fits {w : Nat} {m : Memory} (h : Nat) (hm : MemFits w m) : MemFits w (regionDrop m h) :=
  fun x hx => hm x (List.mem_filter.1 hx).1

/-- A byte write keeps every handle and capacity. -/
theorem writeByte_fits {w : Nat} {m m' : Memory} {h i : Nat} {b : Byte} (hm : MemFits w m)
    (hw : writeByte m h i b = some m') : MemFits w m' := by
  obtain ⟨r, hr, -, rfl, -, -⟩ := writeByte_cases hw
  exact regionPut_fits hm (hm r (regionGet_mem hr))

/-- `ALLOC` of a size that fits keeps every handle and capacity in width. -/
theorem reqAlloc_fits {size : Nat} (zero : Bool) {s : State} (hm : MemFits s.sizeW s.mem) (hs : size < 2 ^ s.sizeW) :
    MemFits s.sizeW (reqAlloc size zero s).2.mem := by
  rcases reqAlloc_cases size zero s with ⟨-, h⟩ | ⟨g, seed, -, hg, -, -, h⟩
  · rw [h]; exact hm
  · rw [h]; exact regionPut_fits hm ⟨hg, hs⟩

/-- `GROW` to a size that fits keeps every handle and capacity in width. -/
theorem reqGrow_fits {h size : Nat} (zero : Bool) {s : State} (hm : MemFits s.sizeW s.mem) (hs : size < 2 ^ s.sizeW) :
    MemFits s.sizeW (reqGrow h size zero s).2.mem := by
  rcases reqGrow_cases h size zero s with ⟨-, hc⟩ | ⟨g, r, -, hr, hl, hc⟩
  · rw [hc]; exact hm
  · have hg : g < 2 ^ s.sizeW := by
      rcases hl with rfl | hl
      · rw [← regionGet_handle hr]; exact (hm r (regionGet_mem hr)).1
      · exact hl.1
    rw [hc]
    exact regionPut_fits (regionDrop_fits _ hm) ⟨hg, hs⟩

/-- `OB.GROW` keeps every handle and capacity in width. -/
theorem obGrow_fits {s t : State} {r : Ob} (hm : MemFits s.sizeW s.mem) (h : obGrow s = .ok (r, t)) :
    MemFits s.sizeW t.mem := by
  obtain ⟨size, hf, -, ⟨-, -, rfl⟩ | ⟨g, -, -, rfl⟩⟩ := obGrow_ok h
  · exact reqGrow_fits _ hm (fit_lt hf)
  · exact reqGrow_fits _ hm (fit_lt hf)

/-- The words of unspecified working registers fit. -/
theorem unspecified_fits (w k : Nat) : ∀ v ∈ workWords (Work.unspecified w k), v < 2 ^ w := by
  simp only [workWords, List.forall_mem_cons]
  exact ⟨WReg.unspecifiedWord_fits _ _, WReg.unspecifiedWord_fits _ _, WReg.unspecifiedWord_fits _ _,
    WReg.unspecifiedWord_fits _ _, WReg.unspecifiedWord_fits _ _, WReg.unspecifiedWord_fits _ _,
    WReg.unspecifiedWord_fits _ _, WReg.unspecifiedWord_fits _ _, WReg.unspecifiedWord_fits _ _, by simp⟩

end Sys2Proof.Machine
end

