-- ==== Sys2Proof/Laws/PerInstr.lean ====
section
/-! SUPPORT. Statements about every instruction as syntax, one lemma per constructor. -/

/-- An instruction has an encoding exactly when its row has one, and it is in the space of its row (30_encoding.md). -/
def Sys2Proof.Laws.FormatOfEncoding.Statement (i : Sys2Proof.Instr) : Prop :=
  (Sys2Proof.encode i).map Sys2Proof.EncWord.format = if i.format = .micro then none else some i.format

theorem Sys2Proof.Laws.FormatOfEncoding.prewarm : Sys2Proof.Laws.FormatOfEncoding.Statement .prewarm := by rfl
theorem Sys2Proof.Laws.FormatOfEncoding.encode : Sys2Proof.Laws.FormatOfEncoding.Statement .encode := by rfl
theorem Sys2Proof.Laws.FormatOfEncoding.decode : Sys2Proof.Laws.FormatOfEncoding.Statement .decode := by rfl
theorem Sys2Proof.Laws.FormatOfEncoding.areqAlloc (size : Nat) (zero : Bool) : Sys2Proof.Laws.FormatOfEncoding.Statement (.areqAlloc size zero) := by rfl
theorem Sys2Proof.Laws.FormatOfEncoding.areqGrow (handle size : Nat) (zero : Bool) : Sys2Proof.Laws.FormatOfEncoding.Statement (.areqGrow handle size zero) := by rfl
theorem Sys2Proof.Laws.FormatOfEncoding.areqRelease (handle : Nat) : Sys2Proof.Laws.FormatOfEncoding.Statement (.areqRelease handle) := by rfl
theorem Sys2Proof.Laws.FormatOfEncoding.areqAllocTable : Sys2Proof.Laws.FormatOfEncoding.Statement .areqAllocTable := by rfl
theorem Sys2Proof.Laws.FormatOfEncoding.kindOk (ptr len cap : Nat) : Sys2Proof.Laws.FormatOfEncoding.Statement (.kindOk ptr len cap) := by rfl
theorem Sys2Proof.Laws.FormatOfEncoding.kindOutOfMemory (ptr len cap : Nat) : Sys2Proof.Laws.FormatOfEncoding.Statement (.kindOutOfMemory ptr len cap) := by rfl
theorem Sys2Proof.Laws.FormatOfEncoding.kindInitializationFailed (ptr len cap : Nat) : Sys2Proof.Laws.FormatOfEncoding.Statement (.kindInitializationFailed ptr len cap) := by rfl
theorem Sys2Proof.Laws.FormatOfEncoding.kindInternal (ptr len cap : Nat) : Sys2Proof.Laws.FormatOfEncoding.Statement (.kindInternal ptr len cap) := by rfl
theorem Sys2Proof.Laws.FormatOfEncoding.romLookup (sym : BitVec 9) : Sys2Proof.Laws.FormatOfEncoding.Statement (.romLookup sym) := by rfl
theorem Sys2Proof.Laws.FormatOfEncoding.dtBuild : Sys2Proof.Laws.FormatOfEncoding.Statement .dtBuild := by rfl
theorem Sys2Proof.Laws.FormatOfEncoding.obAlloc (size inc : Nat) (zero : Bool) : Sys2Proof.Laws.FormatOfEncoding.Statement (.obAlloc size inc zero) := by rfl
theorem Sys2Proof.Laws.FormatOfEncoding.obAdopt (handle cap inc : Nat) (zero : Bool) : Sys2Proof.Laws.FormatOfEncoding.Statement (.obAdopt handle cap inc zero) := by rfl
theorem Sys2Proof.Laws.FormatOfEncoding.obEnsure (idx : Nat) : Sys2Proof.Laws.FormatOfEncoding.Statement (.obEnsure idx) := by rfl
theorem Sys2Proof.Laws.FormatOfEncoding.obGrow : Sys2Proof.Laws.FormatOfEncoding.Statement .obGrow := by rfl
theorem Sys2Proof.Laws.FormatOfEncoding.obRelease : Sys2Proof.Laws.FormatOfEncoding.Statement .obRelease := by rfl
theorem Sys2Proof.Laws.FormatOfEncoding.encAlloc : Sys2Proof.Laws.FormatOfEncoding.Statement .encAlloc := by rfl
theorem Sys2Proof.Laws.FormatOfEncoding.encFetch : Sys2Proof.Laws.FormatOfEncoding.Statement .encFetch := by rfl
theorem Sys2Proof.Laws.FormatOfEncoding.encPack : Sys2Proof.Laws.FormatOfEncoding.Statement .encPack := by rfl
theorem Sys2Proof.Laws.FormatOfEncoding.encPad : Sys2Proof.Laws.FormatOfEncoding.Statement .encPad := by rfl
theorem Sys2Proof.Laws.FormatOfEncoding.decInit : Sys2Proof.Laws.FormatOfEncoding.Statement .decInit := by rfl
theorem Sys2Proof.Laws.FormatOfEncoding.decStart : Sys2Proof.Laws.FormatOfEncoding.Statement .decStart := by rfl
theorem Sys2Proof.Laws.FormatOfEncoding.decScan : Sys2Proof.Laws.FormatOfEncoding.Statement .decScan := by rfl
theorem Sys2Proof.Laws.FormatOfEncoding.decWindow (len : BitVec 6) : Sys2Proof.Laws.FormatOfEncoding.Statement (.decWindow len) := by rfl
theorem Sys2Proof.Laws.FormatOfEncoding.decEmit (k : BitVec 9) : Sys2Proof.Laws.FormatOfEncoding.Statement (.decEmit k) := by rfl
theorem Sys2Proof.Laws.FormatOfEncoding.decTerm : Sys2Proof.Laws.FormatOfEncoding.Statement .decTerm := by rfl
theorem Sys2Proof.Laws.FormatOfEncoding.huffcode0 : Sys2Proof.Laws.FormatOfEncoding.Statement .huffcode0 := by rfl
theorem Sys2Proof.Laws.FormatOfEncoding.huffcode1 : Sys2Proof.Laws.FormatOfEncoding.Statement .huffcode1 := by rfl
theorem Sys2Proof.Laws.FormatOfEncoding.huffcode2 : Sys2Proof.Laws.FormatOfEncoding.Statement .huffcode2 := by rfl
theorem Sys2Proof.Laws.FormatOfEncoding.huffcode3 : Sys2Proof.Laws.FormatOfEncoding.Statement .huffcode3 := by rfl
theorem Sys2Proof.Laws.FormatOfEncoding.huffcode4 : Sys2Proof.Laws.FormatOfEncoding.Statement .huffcode4 := by rfl
theorem Sys2Proof.Laws.FormatOfEncoding.huffcode5 : Sys2Proof.Laws.FormatOfEncoding.Statement .huffcode5 := by rfl
theorem Sys2Proof.Laws.FormatOfEncoding.huffcode6 : Sys2Proof.Laws.FormatOfEncoding.Statement .huffcode6 := by rfl
theorem Sys2Proof.Laws.FormatOfEncoding.huffcode7 : Sys2Proof.Laws.FormatOfEncoding.Statement .huffcode7 := by rfl
theorem Sys2Proof.Laws.FormatOfEncoding.huffcode8 : Sys2Proof.Laws.FormatOfEncoding.Statement .huffcode8 := by rfl
theorem Sys2Proof.Laws.FormatOfEncoding.huffcode9 : Sys2Proof.Laws.FormatOfEncoding.Statement .huffcode9 := by rfl
theorem Sys2Proof.Laws.FormatOfEncoding.huffcode10 : Sys2Proof.Laws.FormatOfEncoding.Statement .huffcode10 := by rfl
theorem Sys2Proof.Laws.FormatOfEncoding.huffcode11 : Sys2Proof.Laws.FormatOfEncoding.Statement .huffcode11 := by rfl
theorem Sys2Proof.Laws.FormatOfEncoding.huffcode12 : Sys2Proof.Laws.FormatOfEncoding.Statement .huffcode12 := by rfl
theorem Sys2Proof.Laws.FormatOfEncoding.huffcode13 : Sys2Proof.Laws.FormatOfEncoding.Statement .huffcode13 := by rfl
theorem Sys2Proof.Laws.FormatOfEncoding.huffcode14 : Sys2Proof.Laws.FormatOfEncoding.Statement .huffcode14 := by rfl
theorem Sys2Proof.Laws.FormatOfEncoding.huffcode15 : Sys2Proof.Laws.FormatOfEncoding.Statement .huffcode15 := by rfl
theorem Sys2Proof.Laws.FormatOfEncoding.huffcode16 : Sys2Proof.Laws.FormatOfEncoding.Statement .huffcode16 := by rfl
theorem Sys2Proof.Laws.FormatOfEncoding.huffcode17 : Sys2Proof.Laws.FormatOfEncoding.Statement .huffcode17 := by rfl
theorem Sys2Proof.Laws.FormatOfEncoding.huffcode18 : Sys2Proof.Laws.FormatOfEncoding.Statement .huffcode18 := by rfl
theorem Sys2Proof.Laws.FormatOfEncoding.huffcode19 : Sys2Proof.Laws.FormatOfEncoding.Statement .huffcode19 := by rfl
theorem Sys2Proof.Laws.FormatOfEncoding.huffcode20 : Sys2Proof.Laws.FormatOfEncoding.Statement .huffcode20 := by rfl
theorem Sys2Proof.Laws.FormatOfEncoding.huffcode21 : Sys2Proof.Laws.FormatOfEncoding.Statement .huffcode21 := by rfl
theorem Sys2Proof.Laws.FormatOfEncoding.huffcode22 : Sys2Proof.Laws.FormatOfEncoding.Statement .huffcode22 := by rfl
theorem Sys2Proof.Laws.FormatOfEncoding.huffcode23 : Sys2Proof.Laws.FormatOfEncoding.Statement .huffcode23 := by rfl
theorem Sys2Proof.Laws.FormatOfEncoding.huffcode24 : Sys2Proof.Laws.FormatOfEncoding.Statement .huffcode24 := by rfl
theorem Sys2Proof.Laws.FormatOfEncoding.huffcode25 : Sys2Proof.Laws.FormatOfEncoding.Statement .huffcode25 := by rfl
theorem Sys2Proof.Laws.FormatOfEncoding.huffcode26 : Sys2Proof.Laws.FormatOfEncoding.Statement .huffcode26 := by rfl
theorem Sys2Proof.Laws.FormatOfEncoding.huffcode27 : Sys2Proof.Laws.FormatOfEncoding.Statement .huffcode27 := by rfl
theorem Sys2Proof.Laws.FormatOfEncoding.huffcode28 : Sys2Proof.Laws.FormatOfEncoding.Statement .huffcode28 := by rfl
theorem Sys2Proof.Laws.FormatOfEncoding.huffcode29 : Sys2Proof.Laws.FormatOfEncoding.Statement .huffcode29 := by rfl
theorem Sys2Proof.Laws.FormatOfEncoding.huffcode30 : Sys2Proof.Laws.FormatOfEncoding.Statement .huffcode30 := by rfl
theorem Sys2Proof.Laws.FormatOfEncoding.huffcode31 : Sys2Proof.Laws.FormatOfEncoding.Statement .huffcode31 := by rfl
theorem Sys2Proof.Laws.FormatOfEncoding.huffcode32 : Sys2Proof.Laws.FormatOfEncoding.Statement .huffcode32 := by rfl
theorem Sys2Proof.Laws.FormatOfEncoding.huffcode33 : Sys2Proof.Laws.FormatOfEncoding.Statement .huffcode33 := by rfl
theorem Sys2Proof.Laws.FormatOfEncoding.huffcode34 : Sys2Proof.Laws.FormatOfEncoding.Statement .huffcode34 := by rfl
theorem Sys2Proof.Laws.FormatOfEncoding.huffcode35 : Sys2Proof.Laws.FormatOfEncoding.Statement .huffcode35 := by rfl
theorem Sys2Proof.Laws.FormatOfEncoding.huffcode36 : Sys2Proof.Laws.FormatOfEncoding.Statement .huffcode36 := by rfl
theorem Sys2Proof.Laws.FormatOfEncoding.huffcode37 : Sys2Proof.Laws.FormatOfEncoding.Statement .huffcode37 := by rfl
theorem Sys2Proof.Laws.FormatOfEncoding.huffcode38 : Sys2Proof.Laws.FormatOfEncoding.Statement .huffcode38 := by rfl
theorem Sys2Proof.Laws.FormatOfEncoding.huffcode39 : Sys2Proof.Laws.FormatOfEncoding.Statement .huffcode39 := by rfl
theorem Sys2Proof.Laws.FormatOfEncoding.huffcode40 : Sys2Proof.Laws.FormatOfEncoding.Statement .huffcode40 := by rfl
theorem Sys2Proof.Laws.FormatOfEncoding.huffcode41 : Sys2Proof.Laws.FormatOfEncoding.Statement .huffcode41 := by rfl
theorem Sys2Proof.Laws.FormatOfEncoding.huffcode42 : Sys2Proof.Laws.FormatOfEncoding.Statement .huffcode42 := by rfl
theorem Sys2Proof.Laws.FormatOfEncoding.huffcode43 : Sys2Proof.Laws.FormatOfEncoding.Statement .huffcode43 := by rfl
theorem Sys2Proof.Laws.FormatOfEncoding.huffcode44 : Sys2Proof.Laws.FormatOfEncoding.Statement .huffcode44 := by rfl
theorem Sys2Proof.Laws.FormatOfEncoding.huffcode45 : Sys2Proof.Laws.FormatOfEncoding.Statement .huffcode45 := by rfl
theorem Sys2Proof.Laws.FormatOfEncoding.huffcode46 : Sys2Proof.Laws.FormatOfEncoding.Statement .huffcode46 := by rfl
theorem Sys2Proof.Laws.FormatOfEncoding.huffcode47 : Sys2Proof.Laws.FormatOfEncoding.Statement .huffcode47 := by rfl
theorem Sys2Proof.Laws.FormatOfEncoding.huffcode48 : Sys2Proof.Laws.FormatOfEncoding.Statement .huffcode48 := by rfl
theorem Sys2Proof.Laws.FormatOfEncoding.huffcode49 : Sys2Proof.Laws.FormatOfEncoding.Statement .huffcode49 := by rfl
theorem Sys2Proof.Laws.FormatOfEncoding.huffcode50 : Sys2Proof.Laws.FormatOfEncoding.Statement .huffcode50 := by rfl
theorem Sys2Proof.Laws.FormatOfEncoding.huffcode51 : Sys2Proof.Laws.FormatOfEncoding.Statement .huffcode51 := by rfl
theorem Sys2Proof.Laws.FormatOfEncoding.huffcode52 : Sys2Proof.Laws.FormatOfEncoding.Statement .huffcode52 := by rfl
theorem Sys2Proof.Laws.FormatOfEncoding.huffcode53 : Sys2Proof.Laws.FormatOfEncoding.Statement .huffcode53 := by rfl
theorem Sys2Proof.Laws.FormatOfEncoding.huffcode54 : Sys2Proof.Laws.FormatOfEncoding.Statement .huffcode54 := by rfl
theorem Sys2Proof.Laws.FormatOfEncoding.huffcode55 : Sys2Proof.Laws.FormatOfEncoding.Statement .huffcode55 := by rfl
theorem Sys2Proof.Laws.FormatOfEncoding.huffcode56 : Sys2Proof.Laws.FormatOfEncoding.Statement .huffcode56 := by rfl
theorem Sys2Proof.Laws.FormatOfEncoding.huffcode57 : Sys2Proof.Laws.FormatOfEncoding.Statement .huffcode57 := by rfl
theorem Sys2Proof.Laws.FormatOfEncoding.huffcode58 : Sys2Proof.Laws.FormatOfEncoding.Statement .huffcode58 := by rfl
theorem Sys2Proof.Laws.FormatOfEncoding.huffcode59 : Sys2Proof.Laws.FormatOfEncoding.Statement .huffcode59 := by rfl
theorem Sys2Proof.Laws.FormatOfEncoding.huffcode60 : Sys2Proof.Laws.FormatOfEncoding.Statement .huffcode60 := by rfl
theorem Sys2Proof.Laws.FormatOfEncoding.huffcode61 : Sys2Proof.Laws.FormatOfEncoding.Statement .huffcode61 := by rfl
theorem Sys2Proof.Laws.FormatOfEncoding.huffcode62 : Sys2Proof.Laws.FormatOfEncoding.Statement .huffcode62 := by rfl
theorem Sys2Proof.Laws.FormatOfEncoding.huffcode63 : Sys2Proof.Laws.FormatOfEncoding.Statement .huffcode63 := by rfl
theorem Sys2Proof.Laws.FormatOfEncoding.huffcode64 : Sys2Proof.Laws.FormatOfEncoding.Statement .huffcode64 := by rfl
theorem Sys2Proof.Laws.FormatOfEncoding.huffcode65 : Sys2Proof.Laws.FormatOfEncoding.Statement .huffcode65 := by rfl
theorem Sys2Proof.Laws.FormatOfEncoding.huffcode66 : Sys2Proof.Laws.FormatOfEncoding.Statement .huffcode66 := by rfl
theorem Sys2Proof.Laws.FormatOfEncoding.huffcode67 : Sys2Proof.Laws.FormatOfEncoding.Statement .huffcode67 := by rfl
theorem Sys2Proof.Laws.FormatOfEncoding.huffcode68 : Sys2Proof.Laws.FormatOfEncoding.Statement .huffcode68 := by rfl
theorem Sys2Proof.Laws.FormatOfEncoding.huffcode69 : Sys2Proof.Laws.FormatOfEncoding.Statement .huffcode69 := by rfl
theorem Sys2Proof.Laws.FormatOfEncoding.huffcode70 : Sys2Proof.Laws.FormatOfEncoding.Statement .huffcode70 := by rfl
theorem Sys2Proof.Laws.FormatOfEncoding.huffcode71 : Sys2Proof.Laws.FormatOfEncoding.Statement .huffcode71 := by rfl
theorem Sys2Proof.Laws.FormatOfEncoding.huffcode72 : Sys2Proof.Laws.FormatOfEncoding.Statement .huffcode72 := by rfl
theorem Sys2Proof.Laws.FormatOfEncoding.huffcode73 : Sys2Proof.Laws.FormatOfEncoding.Statement .huffcode73 := by rfl
theorem Sys2Proof.Laws.FormatOfEncoding.huffcode74 : Sys2Proof.Laws.FormatOfEncoding.Statement .huffcode74 := by rfl
theorem Sys2Proof.Laws.FormatOfEncoding.huffcode75 : Sys2Proof.Laws.FormatOfEncoding.Statement .huffcode75 := by rfl
theorem Sys2Proof.Laws.FormatOfEncoding.huffcode76 : Sys2Proof.Laws.FormatOfEncoding.Statement .huffcode76 := by rfl
theorem Sys2Proof.Laws.FormatOfEncoding.huffcode77 : Sys2Proof.Laws.FormatOfEncoding.Statement .huffcode77 := by rfl
theorem Sys2Proof.Laws.FormatOfEncoding.huffcode78 : Sys2Proof.Laws.FormatOfEncoding.Statement .huffcode78 := by rfl
theorem Sys2Proof.Laws.FormatOfEncoding.huffcode79 : Sys2Proof.Laws.FormatOfEncoding.Statement .huffcode79 := by rfl
theorem Sys2Proof.Laws.FormatOfEncoding.huffcode80 : Sys2Proof.Laws.FormatOfEncoding.Statement .huffcode80 := by rfl
theorem Sys2Proof.Laws.FormatOfEncoding.huffcode81 : Sys2Proof.Laws.FormatOfEncoding.Statement .huffcode81 := by rfl
theorem Sys2Proof.Laws.FormatOfEncoding.huffcode82 : Sys2Proof.Laws.FormatOfEncoding.Statement .huffcode82 := by rfl
theorem Sys2Proof.Laws.FormatOfEncoding.huffcode83 : Sys2Proof.Laws.FormatOfEncoding.Statement .huffcode83 := by rfl
theorem Sys2Proof.Laws.FormatOfEncoding.huffcode84 : Sys2Proof.Laws.FormatOfEncoding.Statement .huffcode84 := by rfl
theorem Sys2Proof.Laws.FormatOfEncoding.huffcode85 : Sys2Proof.Laws.FormatOfEncoding.Statement .huffcode85 := by rfl
theorem Sys2Proof.Laws.FormatOfEncoding.huffcode86 : Sys2Proof.Laws.FormatOfEncoding.Statement .huffcode86 := by rfl
theorem Sys2Proof.Laws.FormatOfEncoding.huffcode87 : Sys2Proof.Laws.FormatOfEncoding.Statement .huffcode87 := by rfl
theorem Sys2Proof.Laws.FormatOfEncoding.huffcode88 : Sys2Proof.Laws.FormatOfEncoding.Statement .huffcode88 := by rfl
theorem Sys2Proof.Laws.FormatOfEncoding.huffcode89 : Sys2Proof.Laws.FormatOfEncoding.Statement .huffcode89 := by rfl
theorem Sys2Proof.Laws.FormatOfEncoding.huffcode90 : Sys2Proof.Laws.FormatOfEncoding.Statement .huffcode90 := by rfl
theorem Sys2Proof.Laws.FormatOfEncoding.huffcode91 : Sys2Proof.Laws.FormatOfEncoding.Statement .huffcode91 := by rfl
theorem Sys2Proof.Laws.FormatOfEncoding.huffcode92 : Sys2Proof.Laws.FormatOfEncoding.Statement .huffcode92 := by rfl
theorem Sys2Proof.Laws.FormatOfEncoding.huffcode93 : Sys2Proof.Laws.FormatOfEncoding.Statement .huffcode93 := by rfl
theorem Sys2Proof.Laws.FormatOfEncoding.huffcode94 : Sys2Proof.Laws.FormatOfEncoding.Statement .huffcode94 := by rfl
theorem Sys2Proof.Laws.FormatOfEncoding.huffcode95 : Sys2Proof.Laws.FormatOfEncoding.Statement .huffcode95 := by rfl
theorem Sys2Proof.Laws.FormatOfEncoding.huffcode96 : Sys2Proof.Laws.FormatOfEncoding.Statement .huffcode96 := by rfl
theorem Sys2Proof.Laws.FormatOfEncoding.huffcode97 : Sys2Proof.Laws.FormatOfEncoding.Statement .huffcode97 := by rfl
theorem Sys2Proof.Laws.FormatOfEncoding.huffcode98 : Sys2Proof.Laws.FormatOfEncoding.Statement .huffcode98 := by rfl
theorem Sys2Proof.Laws.FormatOfEncoding.huffcode99 : Sys2Proof.Laws.FormatOfEncoding.Statement .huffcode99 := by rfl
theorem Sys2Proof.Laws.FormatOfEncoding.huffcode100 : Sys2Proof.Laws.FormatOfEncoding.Statement .huffcode100 := by rfl
theorem Sys2Proof.Laws.FormatOfEncoding.huffcode101 : Sys2Proof.Laws.FormatOfEncoding.Statement .huffcode101 := by rfl
theorem Sys2Proof.Laws.FormatOfEncoding.huffcode102 : Sys2Proof.Laws.FormatOfEncoding.Statement .huffcode102 := by rfl
theorem Sys2Proof.Laws.FormatOfEncoding.huffcode103 : Sys2Proof.Laws.FormatOfEncoding.Statement .huffcode103 := by rfl
theorem Sys2Proof.Laws.FormatOfEncoding.huffcode104 : Sys2Proof.Laws.FormatOfEncoding.Statement .huffcode104 := by rfl
theorem Sys2Proof.Laws.FormatOfEncoding.huffcode105 : Sys2Proof.Laws.FormatOfEncoding.Statement .huffcode105 := by rfl
theorem Sys2Proof.Laws.FormatOfEncoding.huffcode106 : Sys2Proof.Laws.FormatOfEncoding.Statement .huffcode106 := by rfl
theorem Sys2Proof.Laws.FormatOfEncoding.huffcode107 : Sys2Proof.Laws.FormatOfEncoding.Statement .huffcode107 := by rfl
theorem Sys2Proof.Laws.FormatOfEncoding.huffcode108 : Sys2Proof.Laws.FormatOfEncoding.Statement .huffcode108 := by rfl
theorem Sys2Proof.Laws.FormatOfEncoding.huffcode109 : Sys2Proof.Laws.FormatOfEncoding.Statement .huffcode109 := by rfl
theorem Sys2Proof.Laws.FormatOfEncoding.huffcode110 : Sys2Proof.Laws.FormatOfEncoding.Statement .huffcode110 := by rfl
theorem Sys2Proof.Laws.FormatOfEncoding.huffcode111 : Sys2Proof.Laws.FormatOfEncoding.Statement .huffcode111 := by rfl
theorem Sys2Proof.Laws.FormatOfEncoding.huffcode112 : Sys2Proof.Laws.FormatOfEncoding.Statement .huffcode112 := by rfl
theorem Sys2Proof.Laws.FormatOfEncoding.huffcode113 : Sys2Proof.Laws.FormatOfEncoding.Statement .huffcode113 := by rfl
theorem Sys2Proof.Laws.FormatOfEncoding.huffcode114 : Sys2Proof.Laws.FormatOfEncoding.Statement .huffcode114 := by rfl
theorem Sys2Proof.Laws.FormatOfEncoding.huffcode115 : Sys2Proof.Laws.FormatOfEncoding.Statement .huffcode115 := by rfl
theorem Sys2Proof.Laws.FormatOfEncoding.huffcode116 : Sys2Proof.Laws.FormatOfEncoding.Statement .huffcode116 := by rfl
theorem Sys2Proof.Laws.FormatOfEncoding.huffcode117 : Sys2Proof.Laws.FormatOfEncoding.Statement .huffcode117 := by rfl
theorem Sys2Proof.Laws.FormatOfEncoding.huffcode118 : Sys2Proof.Laws.FormatOfEncoding.Statement .huffcode118 := by rfl
theorem Sys2Proof.Laws.FormatOfEncoding.huffcode119 : Sys2Proof.Laws.FormatOfEncoding.Statement .huffcode119 := by rfl
theorem Sys2Proof.Laws.FormatOfEncoding.huffcode120 : Sys2Proof.Laws.FormatOfEncoding.Statement .huffcode120 := by rfl
theorem Sys2Proof.Laws.FormatOfEncoding.huffcode121 : Sys2Proof.Laws.FormatOfEncoding.Statement .huffcode121 := by rfl
theorem Sys2Proof.Laws.FormatOfEncoding.huffcode122 : Sys2Proof.Laws.FormatOfEncoding.Statement .huffcode122 := by rfl
theorem Sys2Proof.Laws.FormatOfEncoding.huffcode123 : Sys2Proof.Laws.FormatOfEncoding.Statement .huffcode123 := by rfl
theorem Sys2Proof.Laws.FormatOfEncoding.huffcode124 : Sys2Proof.Laws.FormatOfEncoding.Statement .huffcode124 := by rfl
theorem Sys2Proof.Laws.FormatOfEncoding.huffcode125 : Sys2Proof.Laws.FormatOfEncoding.Statement .huffcode125 := by rfl
theorem Sys2Proof.Laws.FormatOfEncoding.huffcode126 : Sys2Proof.Laws.FormatOfEncoding.Statement .huffcode126 := by rfl
theorem Sys2Proof.Laws.FormatOfEncoding.huffcode127 : Sys2Proof.Laws.FormatOfEncoding.Statement .huffcode127 := by rfl
theorem Sys2Proof.Laws.FormatOfEncoding.huffcode128 : Sys2Proof.Laws.FormatOfEncoding.Statement .huffcode128 := by rfl
theorem Sys2Proof.Laws.FormatOfEncoding.huffcode129 : Sys2Proof.Laws.FormatOfEncoding.Statement .huffcode129 := by rfl
theorem Sys2Proof.Laws.FormatOfEncoding.huffcode130 : Sys2Proof.Laws.FormatOfEncoding.Statement .huffcode130 := by rfl
theorem Sys2Proof.Laws.FormatOfEncoding.huffcode131 : Sys2Proof.Laws.FormatOfEncoding.Statement .huffcode131 := by rfl
theorem Sys2Proof.Laws.FormatOfEncoding.huffcode132 : Sys2Proof.Laws.FormatOfEncoding.Statement .huffcode132 := by rfl
theorem Sys2Proof.Laws.FormatOfEncoding.huffcode133 : Sys2Proof.Laws.FormatOfEncoding.Statement .huffcode133 := by rfl
theorem Sys2Proof.Laws.FormatOfEncoding.huffcode134 : Sys2Proof.Laws.FormatOfEncoding.Statement .huffcode134 := by rfl
theorem Sys2Proof.Laws.FormatOfEncoding.huffcode135 : Sys2Proof.Laws.FormatOfEncoding.Statement .huffcode135 := by rfl
theorem Sys2Proof.Laws.FormatOfEncoding.huffcode136 : Sys2Proof.Laws.FormatOfEncoding.Statement .huffcode136 := by rfl
theorem Sys2Proof.Laws.FormatOfEncoding.huffcode137 : Sys2Proof.Laws.FormatOfEncoding.Statement .huffcode137 := by rfl
theorem Sys2Proof.Laws.FormatOfEncoding.huffcode138 : Sys2Proof.Laws.FormatOfEncoding.Statement .huffcode138 := by rfl
theorem Sys2Proof.Laws.FormatOfEncoding.huffcode139 : Sys2Proof.Laws.FormatOfEncoding.Statement .huffcode139 := by rfl
theorem Sys2Proof.Laws.FormatOfEncoding.huffcode140 : Sys2Proof.Laws.FormatOfEncoding.Statement .huffcode140 := by rfl
theorem Sys2Proof.Laws.FormatOfEncoding.huffcode141 : Sys2Proof.Laws.FormatOfEncoding.Statement .huffcode141 := by rfl
theorem Sys2Proof.Laws.FormatOfEncoding.huffcode142 : Sys2Proof.Laws.FormatOfEncoding.Statement .huffcode142 := by rfl
theorem Sys2Proof.Laws.FormatOfEncoding.huffcode143 : Sys2Proof.Laws.FormatOfEncoding.Statement .huffcode143 := by rfl
theorem Sys2Proof.Laws.FormatOfEncoding.huffcode144 : Sys2Proof.Laws.FormatOfEncoding.Statement .huffcode144 := by rfl
theorem Sys2Proof.Laws.FormatOfEncoding.huffcode145 : Sys2Proof.Laws.FormatOfEncoding.Statement .huffcode145 := by rfl
theorem Sys2Proof.Laws.FormatOfEncoding.huffcode146 : Sys2Proof.Laws.FormatOfEncoding.Statement .huffcode146 := by rfl
theorem Sys2Proof.Laws.FormatOfEncoding.huffcode147 : Sys2Proof.Laws.FormatOfEncoding.Statement .huffcode147 := by rfl
theorem Sys2Proof.Laws.FormatOfEncoding.huffcode148 : Sys2Proof.Laws.FormatOfEncoding.Statement .huffcode148 := by rfl
theorem Sys2Proof.Laws.FormatOfEncoding.huffcode149 : Sys2Proof.Laws.FormatOfEncoding.Statement .huffcode149 := by rfl
theorem Sys2Proof.Laws.FormatOfEncoding.huffcode150 : Sys2Proof.Laws.FormatOfEncoding.Statement .huffcode150 := by rfl
theorem Sys2Proof.Laws.FormatOfEncoding.huffcode151 : Sys2Proof.Laws.FormatOfEncoding.Statement .huffcode151 := by rfl
theorem Sys2Proof.Laws.FormatOfEncoding.huffcode152 : Sys2Proof.Laws.FormatOfEncoding.Statement .huffcode152 := by rfl
theorem Sys2Proof.Laws.FormatOfEncoding.huffcode153 : Sys2Proof.Laws.FormatOfEncoding.Statement .huffcode153 := by rfl
theorem Sys2Proof.Laws.FormatOfEncoding.huffcode154 : Sys2Proof.Laws.FormatOfEncoding.Statement .huffcode154 := by rfl
theorem Sys2Proof.Laws.FormatOfEncoding.huffcode155 : Sys2Proof.Laws.FormatOfEncoding.Statement .huffcode155 := by rfl
theorem Sys2Proof.Laws.FormatOfEncoding.huffcode156 : Sys2Proof.Laws.FormatOfEncoding.Statement .huffcode156 := by rfl
theorem Sys2Proof.Laws.FormatOfEncoding.huffcode157 : Sys2Proof.Laws.FormatOfEncoding.Statement .huffcode157 := by rfl
theorem Sys2Proof.Laws.FormatOfEncoding.huffcode158 : Sys2Proof.Laws.FormatOfEncoding.Statement .huffcode158 := by rfl
theorem Sys2Proof.Laws.FormatOfEncoding.huffcode159 : Sys2Proof.Laws.FormatOfEncoding.Statement .huffcode159 := by rfl
theorem Sys2Proof.Laws.FormatOfEncoding.huffcode160 : Sys2Proof.Laws.FormatOfEncoding.Statement .huffcode160 := by rfl
theorem Sys2Proof.Laws.FormatOfEncoding.huffcode161 : Sys2Proof.Laws.FormatOfEncoding.Statement .huffcode161 := by rfl
theorem Sys2Proof.Laws.FormatOfEncoding.huffcode162 : Sys2Proof.Laws.FormatOfEncoding.Statement .huffcode162 := by rfl
theorem Sys2Proof.Laws.FormatOfEncoding.huffcode163 : Sys2Proof.Laws.FormatOfEncoding.Statement .huffcode163 := by rfl
theorem Sys2Proof.Laws.FormatOfEncoding.huffcode164 : Sys2Proof.Laws.FormatOfEncoding.Statement .huffcode164 := by rfl
theorem Sys2Proof.Laws.FormatOfEncoding.huffcode165 : Sys2Proof.Laws.FormatOfEncoding.Statement .huffcode165 := by rfl
theorem Sys2Proof.Laws.FormatOfEncoding.huffcode166 : Sys2Proof.Laws.FormatOfEncoding.Statement .huffcode166 := by rfl
theorem Sys2Proof.Laws.FormatOfEncoding.huffcode167 : Sys2Proof.Laws.FormatOfEncoding.Statement .huffcode167 := by rfl
theorem Sys2Proof.Laws.FormatOfEncoding.huffcode168 : Sys2Proof.Laws.FormatOfEncoding.Statement .huffcode168 := by rfl
theorem Sys2Proof.Laws.FormatOfEncoding.huffcode169 : Sys2Proof.Laws.FormatOfEncoding.Statement .huffcode169 := by rfl
theorem Sys2Proof.Laws.FormatOfEncoding.huffcode170 : Sys2Proof.Laws.FormatOfEncoding.Statement .huffcode170 := by rfl
theorem Sys2Proof.Laws.FormatOfEncoding.huffcode171 : Sys2Proof.Laws.FormatOfEncoding.Statement .huffcode171 := by rfl
theorem Sys2Proof.Laws.FormatOfEncoding.huffcode172 : Sys2Proof.Laws.FormatOfEncoding.Statement .huffcode172 := by rfl
theorem Sys2Proof.Laws.FormatOfEncoding.huffcode173 : Sys2Proof.Laws.FormatOfEncoding.Statement .huffcode173 := by rfl
theorem Sys2Proof.Laws.FormatOfEncoding.huffcode174 : Sys2Proof.Laws.FormatOfEncoding.Statement .huffcode174 := by rfl
theorem Sys2Proof.Laws.FormatOfEncoding.huffcode175 : Sys2Proof.Laws.FormatOfEncoding.Statement .huffcode175 := by rfl
theorem Sys2Proof.Laws.FormatOfEncoding.huffcode176 : Sys2Proof.Laws.FormatOfEncoding.Statement .huffcode176 := by rfl
theorem Sys2Proof.Laws.FormatOfEncoding.huffcode177 : Sys2Proof.Laws.FormatOfEncoding.Statement .huffcode177 := by rfl
theorem Sys2Proof.Laws.FormatOfEncoding.huffcode178 : Sys2Proof.Laws.FormatOfEncoding.Statement .huffcode178 := by rfl
theorem Sys2Proof.Laws.FormatOfEncoding.huffcode179 : Sys2Proof.Laws.FormatOfEncoding.Statement .huffcode179 := by rfl
theorem Sys2Proof.Laws.FormatOfEncoding.huffcode180 : Sys2Proof.Laws.FormatOfEncoding.Statement .huffcode180 := by rfl
theorem Sys2Proof.Laws.FormatOfEncoding.huffcode181 : Sys2Proof.Laws.FormatOfEncoding.Statement .huffcode181 := by rfl
theorem Sys2Proof.Laws.FormatOfEncoding.huffcode182 : Sys2Proof.Laws.FormatOfEncoding.Statement .huffcode182 := by rfl
theorem Sys2Proof.Laws.FormatOfEncoding.huffcode183 : Sys2Proof.Laws.FormatOfEncoding.Statement .huffcode183 := by rfl
theorem Sys2Proof.Laws.FormatOfEncoding.huffcode184 : Sys2Proof.Laws.FormatOfEncoding.Statement .huffcode184 := by rfl
theorem Sys2Proof.Laws.FormatOfEncoding.huffcode185 : Sys2Proof.Laws.FormatOfEncoding.Statement .huffcode185 := by rfl
theorem Sys2Proof.Laws.FormatOfEncoding.huffcode186 : Sys2Proof.Laws.FormatOfEncoding.Statement .huffcode186 := by rfl
theorem Sys2Proof.Laws.FormatOfEncoding.huffcode187 : Sys2Proof.Laws.FormatOfEncoding.Statement .huffcode187 := by rfl
theorem Sys2Proof.Laws.FormatOfEncoding.huffcode188 : Sys2Proof.Laws.FormatOfEncoding.Statement .huffcode188 := by rfl
theorem Sys2Proof.Laws.FormatOfEncoding.huffcode189 : Sys2Proof.Laws.FormatOfEncoding.Statement .huffcode189 := by rfl
theorem Sys2Proof.Laws.FormatOfEncoding.huffcode190 : Sys2Proof.Laws.FormatOfEncoding.Statement .huffcode190 := by rfl
theorem Sys2Proof.Laws.FormatOfEncoding.huffcode191 : Sys2Proof.Laws.FormatOfEncoding.Statement .huffcode191 := by rfl
theorem Sys2Proof.Laws.FormatOfEncoding.huffcode192 : Sys2Proof.Laws.FormatOfEncoding.Statement .huffcode192 := by rfl
theorem Sys2Proof.Laws.FormatOfEncoding.huffcode193 : Sys2Proof.Laws.FormatOfEncoding.Statement .huffcode193 := by rfl
theorem Sys2Proof.Laws.FormatOfEncoding.huffcode194 : Sys2Proof.Laws.FormatOfEncoding.Statement .huffcode194 := by rfl
theorem Sys2Proof.Laws.FormatOfEncoding.huffcode195 : Sys2Proof.Laws.FormatOfEncoding.Statement .huffcode195 := by rfl
theorem Sys2Proof.Laws.FormatOfEncoding.huffcode196 : Sys2Proof.Laws.FormatOfEncoding.Statement .huffcode196 := by rfl
theorem Sys2Proof.Laws.FormatOfEncoding.huffcode197 : Sys2Proof.Laws.FormatOfEncoding.Statement .huffcode197 := by rfl
theorem Sys2Proof.Laws.FormatOfEncoding.huffcode198 : Sys2Proof.Laws.FormatOfEncoding.Statement .huffcode198 := by rfl
theorem Sys2Proof.Laws.FormatOfEncoding.huffcode199 : Sys2Proof.Laws.FormatOfEncoding.Statement .huffcode199 := by rfl
theorem Sys2Proof.Laws.FormatOfEncoding.huffcode200 : Sys2Proof.Laws.FormatOfEncoding.Statement .huffcode200 := by rfl
theorem Sys2Proof.Laws.FormatOfEncoding.huffcode201 : Sys2Proof.Laws.FormatOfEncoding.Statement .huffcode201 := by rfl
theorem Sys2Proof.Laws.FormatOfEncoding.huffcode202 : Sys2Proof.Laws.FormatOfEncoding.Statement .huffcode202 := by rfl
theorem Sys2Proof.Laws.FormatOfEncoding.huffcode203 : Sys2Proof.Laws.FormatOfEncoding.Statement .huffcode203 := by rfl
theorem Sys2Proof.Laws.FormatOfEncoding.huffcode204 : Sys2Proof.Laws.FormatOfEncoding.Statement .huffcode204 := by rfl
theorem Sys2Proof.Laws.FormatOfEncoding.huffcode205 : Sys2Proof.Laws.FormatOfEncoding.Statement .huffcode205 := by rfl
theorem Sys2Proof.Laws.FormatOfEncoding.huffcode206 : Sys2Proof.Laws.FormatOfEncoding.Statement .huffcode206 := by rfl
theorem Sys2Proof.Laws.FormatOfEncoding.huffcode207 : Sys2Proof.Laws.FormatOfEncoding.Statement .huffcode207 := by rfl
theorem Sys2Proof.Laws.FormatOfEncoding.huffcode208 : Sys2Proof.Laws.FormatOfEncoding.Statement .huffcode208 := by rfl
theorem Sys2Proof.Laws.FormatOfEncoding.huffcode209 : Sys2Proof.Laws.FormatOfEncoding.Statement .huffcode209 := by rfl
theorem Sys2Proof.Laws.FormatOfEncoding.huffcode210 : Sys2Proof.Laws.FormatOfEncoding.Statement .huffcode210 := by rfl
theorem Sys2Proof.Laws.FormatOfEncoding.huffcode211 : Sys2Proof.Laws.FormatOfEncoding.Statement .huffcode211 := by rfl
theorem Sys2Proof.Laws.FormatOfEncoding.huffcode212 : Sys2Proof.Laws.FormatOfEncoding.Statement .huffcode212 := by rfl
theorem Sys2Proof.Laws.FormatOfEncoding.huffcode213 : Sys2Proof.Laws.FormatOfEncoding.Statement .huffcode213 := by rfl
theorem Sys2Proof.Laws.FormatOfEncoding.huffcode214 : Sys2Proof.Laws.FormatOfEncoding.Statement .huffcode214 := by rfl
theorem Sys2Proof.Laws.FormatOfEncoding.huffcode215 : Sys2Proof.Laws.FormatOfEncoding.Statement .huffcode215 := by rfl
theorem Sys2Proof.Laws.FormatOfEncoding.huffcode216 : Sys2Proof.Laws.FormatOfEncoding.Statement .huffcode216 := by rfl
theorem Sys2Proof.Laws.FormatOfEncoding.huffcode217 : Sys2Proof.Laws.FormatOfEncoding.Statement .huffcode217 := by rfl
theorem Sys2Proof.Laws.FormatOfEncoding.huffcode218 : Sys2Proof.Laws.FormatOfEncoding.Statement .huffcode218 := by rfl
theorem Sys2Proof.Laws.FormatOfEncoding.huffcode219 : Sys2Proof.Laws.FormatOfEncoding.Statement .huffcode219 := by rfl
theorem Sys2Proof.Laws.FormatOfEncoding.huffcode220 : Sys2Proof.Laws.FormatOfEncoding.Statement .huffcode220 := by rfl
theorem Sys2Proof.Laws.FormatOfEncoding.huffcode221 : Sys2Proof.Laws.FormatOfEncoding.Statement .huffcode221 := by rfl
theorem Sys2Proof.Laws.FormatOfEncoding.huffcode222 : Sys2Proof.Laws.FormatOfEncoding.Statement .huffcode222 := by rfl
theorem Sys2Proof.Laws.FormatOfEncoding.huffcode223 : Sys2Proof.Laws.FormatOfEncoding.Statement .huffcode223 := by rfl
theorem Sys2Proof.Laws.FormatOfEncoding.huffcode224 : Sys2Proof.Laws.FormatOfEncoding.Statement .huffcode224 := by rfl
theorem Sys2Proof.Laws.FormatOfEncoding.huffcode225 : Sys2Proof.Laws.FormatOfEncoding.Statement .huffcode225 := by rfl
theorem Sys2Proof.Laws.FormatOfEncoding.huffcode226 : Sys2Proof.Laws.FormatOfEncoding.Statement .huffcode226 := by rfl
theorem Sys2Proof.Laws.FormatOfEncoding.huffcode227 : Sys2Proof.Laws.FormatOfEncoding.Statement .huffcode227 := by rfl
theorem Sys2Proof.Laws.FormatOfEncoding.huffcode228 : Sys2Proof.Laws.FormatOfEncoding.Statement .huffcode228 := by rfl
theorem Sys2Proof.Laws.FormatOfEncoding.huffcode229 : Sys2Proof.Laws.FormatOfEncoding.Statement .huffcode229 := by rfl
theorem Sys2Proof.Laws.FormatOfEncoding.huffcode230 : Sys2Proof.Laws.FormatOfEncoding.Statement .huffcode230 := by rfl
theorem Sys2Proof.Laws.FormatOfEncoding.huffcode231 : Sys2Proof.Laws.FormatOfEncoding.Statement .huffcode231 := by rfl
theorem Sys2Proof.Laws.FormatOfEncoding.huffcode232 : Sys2Proof.Laws.FormatOfEncoding.Statement .huffcode232 := by rfl
theorem Sys2Proof.Laws.FormatOfEncoding.huffcode233 : Sys2Proof.Laws.FormatOfEncoding.Statement .huffcode233 := by rfl
theorem Sys2Proof.Laws.FormatOfEncoding.huffcode234 : Sys2Proof.Laws.FormatOfEncoding.Statement .huffcode234 := by rfl
theorem Sys2Proof.Laws.FormatOfEncoding.huffcode235 : Sys2Proof.Laws.FormatOfEncoding.Statement .huffcode235 := by rfl
theorem Sys2Proof.Laws.FormatOfEncoding.huffcode236 : Sys2Proof.Laws.FormatOfEncoding.Statement .huffcode236 := by rfl
theorem Sys2Proof.Laws.FormatOfEncoding.huffcode237 : Sys2Proof.Laws.FormatOfEncoding.Statement .huffcode237 := by rfl
theorem Sys2Proof.Laws.FormatOfEncoding.huffcode238 : Sys2Proof.Laws.FormatOfEncoding.Statement .huffcode238 := by rfl
theorem Sys2Proof.Laws.FormatOfEncoding.huffcode239 : Sys2Proof.Laws.FormatOfEncoding.Statement .huffcode239 := by rfl
theorem Sys2Proof.Laws.FormatOfEncoding.huffcode240 : Sys2Proof.Laws.FormatOfEncoding.Statement .huffcode240 := by rfl
theorem Sys2Proof.Laws.FormatOfEncoding.huffcode241 : Sys2Proof.Laws.FormatOfEncoding.Statement .huffcode241 := by rfl
theorem Sys2Proof.Laws.FormatOfEncoding.huffcode242 : Sys2Proof.Laws.FormatOfEncoding.Statement .huffcode242 := by rfl
theorem Sys2Proof.Laws.FormatOfEncoding.huffcode243 : Sys2Proof.Laws.FormatOfEncoding.Statement .huffcode243 := by rfl
theorem Sys2Proof.Laws.FormatOfEncoding.huffcode244 : Sys2Proof.Laws.FormatOfEncoding.Statement .huffcode244 := by rfl
theorem Sys2Proof.Laws.FormatOfEncoding.huffcode245 : Sys2Proof.Laws.FormatOfEncoding.Statement .huffcode245 := by rfl
theorem Sys2Proof.Laws.FormatOfEncoding.huffcode246 : Sys2Proof.Laws.FormatOfEncoding.Statement .huffcode246 := by rfl
theorem Sys2Proof.Laws.FormatOfEncoding.huffcode247 : Sys2Proof.Laws.FormatOfEncoding.Statement .huffcode247 := by rfl
theorem Sys2Proof.Laws.FormatOfEncoding.huffcode248 : Sys2Proof.Laws.FormatOfEncoding.Statement .huffcode248 := by rfl
theorem Sys2Proof.Laws.FormatOfEncoding.huffcode249 : Sys2Proof.Laws.FormatOfEncoding.Statement .huffcode249 := by rfl
theorem Sys2Proof.Laws.FormatOfEncoding.huffcode250 : Sys2Proof.Laws.FormatOfEncoding.Statement .huffcode250 := by rfl
theorem Sys2Proof.Laws.FormatOfEncoding.huffcode251 : Sys2Proof.Laws.FormatOfEncoding.Statement .huffcode251 := by rfl
theorem Sys2Proof.Laws.FormatOfEncoding.huffcode252 : Sys2Proof.Laws.FormatOfEncoding.Statement .huffcode252 := by rfl
theorem Sys2Proof.Laws.FormatOfEncoding.huffcode253 : Sys2Proof.Laws.FormatOfEncoding.Statement .huffcode253 := by rfl
theorem Sys2Proof.Laws.FormatOfEncoding.huffcode254 : Sys2Proof.Laws.FormatOfEncoding.Statement .huffcode254 := by rfl
theorem Sys2Proof.Laws.FormatOfEncoding.huffcode255 : Sys2Proof.Laws.FormatOfEncoding.Statement .huffcode255 := by rfl
theorem Sys2Proof.Laws.FormatOfEncoding.huffcode256 : Sys2Proof.Laws.FormatOfEncoding.Statement .huffcode256 := by rfl
end

