-- ==== Sys2Proof/Laws/Rom.lean ====
section
/-! SUPPORT. The default table is well formed (R108). -/

namespace Sys2Proof.Machine

open Sys2Proof

theorem mem_insertByLength (e x : CodeEntry) (l : List CodeEntry) : x ∈ insertByLength e l ↔ x = e ∨ x ∈ l := by
  induction l with
  | nil => simp [insertByLength]
  | cons y ys ih => simp only [insertByLength]; split <;> simp_all; tauto

/-- The sort keeps the members. -/
theorem mem_sortByLength (x : CodeEntry) (l : List CodeEntry) : x ∈ sortByLength l ↔ x ∈ l := by
  induction l with
  | nil => simp [sortByLength]
  | cons y ys ih => simp [sortByLength, mem_insertByLength, ih]

theorem insertByLength_perm (e : CodeEntry) (l : List CodeEntry) : (insertByLength e l).Perm (e :: l) := by
  induction l with
  | nil => exact .refl _
  | cons y ys ih =>
    simp only [insertByLength]
    split
    · exact .refl _
    · exact (ih.cons y).trans (.swap e y ys)

/-- The sort permutes. -/
theorem sortByLength_perm (l : List CodeEntry) : (sortByLength l).Perm l := by
  induction l with
  | nil => exact .refl _
  | cons y ys ih => exact (insertByLength_perm y _).trans (ih.cons y)

theorem insertByLength_rising (e : CodeEntry) {l : List CodeEntry}
    (h : l.Pairwise fun x y => x.length.toNat ≤ y.length.toNat) :
    (insertByLength e l).Pairwise fun x y => x.length.toNat ≤ y.length.toNat := by
  induction l with
  | nil => simp [insertByLength]
  | cons y ys ih =>
    obtain ⟨h1, h2⟩ := List.pairwise_cons.1 h
    simp only [insertByLength]
    split
    · rename_i hle
      refine List.pairwise_cons.2 ⟨fun x hx => ?_, h⟩
      rcases List.mem_cons.1 hx with rfl | hx
      · exact hle
      · exact le_trans hle (h1 x hx)
    · refine List.pairwise_cons.2 ⟨fun x hx => ?_, ih h2⟩
      rcases (mem_insertByLength e x ys).1 hx with rfl | hx
      · omega
      · exact h1 x hx

/-- Lengths do not fall in the sorted table. -/
theorem sortByLength_rising (l : List CodeEntry) :
    (sortByLength l).Pairwise fun x y => x.length.toNat ≤ y.length.toNat := by
  induction l with
  | nil => simp [sortByLength]
  | cons y ys ih => exact insertByLength_rising y ih

/-- The first of the 30-bit strings that begin with the code of an entry. -/
def codeLow (e : CodeEntry) : Nat := e.code.toNat * 2 ^ (30 - e.length.toNat)

/-- All 30-bit strings that begin with the first code come before those that begin with the second. -/
def codeBefore (e f : CodeEntry) : Prop := codeLow e + 2 ^ (30 - e.length.toNat) ≤ codeLow f

theorem codeBefore_trans {e f g : CodeEntry} (h1 : codeBefore e f) (h2 : codeBefore f g) : codeBefore e g :=
  le_trans h1 (le_trans (Nat.le_add_right _ _) h2)

/-- An entry whose code begins with that of another is neither before nor after it. -/
theorem not_codeBefore_of_prefix {e f : CodeEntry} (hle : e.length.toNat ≤ f.length.toNat) (hf : f.length.toNat ≤ 30)
    (hp : f.code.toNat >>> (f.length.toNat - e.length.toNat) = e.code.toNat) : ¬(codeBefore e f ∨ codeBefore f e) := by
  have hpow : 2 ^ (30 - e.length.toNat) = 2 ^ (f.length.toNat - e.length.toNat) * 2 ^ (30 - f.length.toNat) := by
    rw [← pow_add]; congr 1; omega
  rw [Nat.shiftRight_eq_div_pow] at hp
  have hd := Nat.div_add_mod f.code.toNat (2 ^ (f.length.toNat - e.length.toNat))
  have hm := Nat.mod_lt f.code.toNat (Nat.two_pow_pos (f.length.toNat - e.length.toNat))
  have hs := Nat.two_pow_pos (30 - f.length.toNat)
  rw [hp] at hd
  simp only [codeBefore, codeLow, hpow]
  generalize 2 ^ (f.length.toNat - e.length.toNat) = a at *
  generalize 2 ^ (30 - f.length.toNat) = b at *
  generalize f.code.toNat % a = m at *
  generalize e.code.toNat = c at *
  rw [← hd]
  rintro (h | h) <;> nlinarith

theorem romH2_indexed : (romH2.zipIdx.all fun p => p.1.symbol.toNat == p.2) = true := by decide +kernel

theorem romH2_wf1 : Wf1 romH2 := by
  refine ⟨by decide +kernel, fun s e h => ?_⟩
  have h1 := List.all_eq_true.1 romH2_indexed (e, s) (List.mk_mem_zipIdx_iff_getElem?.2 h)
  simpa using h1

theorem romH2_wf2 : Wf2 romH2 := by unfold Wf2; decide +kernel

theorem romH2_chain : (sortByLength romH2).IsChain codeBefore := by unfold codeBefore; decide +kernel

theorem romH2_wf4 : Wf4 romH2 := by
  intro s t e f hst he hf hle hp
  have h1 : (sortByLength romH2).Pairwise fun a b => codeBefore a b ∨ codeBefore b a :=
    (@List.isChain_iff_pairwise _ codeBefore _ ⟨codeBefore_trans⟩ |>.1 romH2_chain).imp .inl
  have hne : e ≠ f := fun h => hst (by rw [← romH2_wf1.2 s e he, ← romH2_wf1.2 t f hf, h])
  have me := List.mem_of_getElem? he
  have mf := List.mem_of_getElem? hf
  exact not_codeBefore_of_prefix hle (romH2_wf2 f mf).2 hp
    (@List.Pairwise.forall _ _ _ ⟨fun _ _ => Or.symm⟩ h1 _ ((mem_sortByLength _ _).2 me) _
      ((mem_sortByLength _ _).2 mf) hne)

/-- `ROM_H2` satisfies `WF1` to `WF5`. -/
theorem romH2_wf : RomWf romH2 where
  wf1 := romH2_wf1
  wf2 := romH2_wf2
  wf3 := by unfold Wf3; decide +kernel
  wf4 := romH2_wf4
  wf5 := by unfold Wf5; decide +kernel

end Sys2Proof.Machine
end

