-- ==== Sys2Proof/Tests/Slice0.lean ====
section
/-! SUPPORT. The model's own tests: ill-formed terms, words written out from the spec, one-step tests from the worked examples
and vectors of the spec, and a witness for the hypotheses of each statement. -/

namespace Sys2Proof.Tests

set_option Elab.async false

open Sys2Proof Sys2Proof.Machine

/-! ### Helpers -/

/-- The next state of an outcome. -/
def nextOf (o : Host.Outcome State Fault Refusal) : Option State :=
  match o with
  | .next s => some s
  | .fault _ => none
  | .refused _ => none

/-- What a next state shows of the result registers: kind, handle, length, capacity. -/
def resultOf (o : Host.Outcome State Fault Refusal) : Option (Nat × Nat × Nat × Nat) :=
  (nextOf o).map fun s => (s.resKind.toNat, s.resPtr, s.resLen, s.resCap)

/-- Why an outcome is refused. -/
def refusalOf (o : Host.Outcome State Fault Refusal) : Option Refusal :=
  match o with
  | .next _ => none
  | .fault _ => none
  | .refused r => some r

/-- The first `n` bytes of a region after a step. -/
def bytesOf (o : Host.Outcome State Fault Refusal) (h : Nat) (n : Nat) : Option (List (Option Byte)) :=
  (nextOf o).map fun s => (List.range n).map (readByte s.mem h)

/-- A granted region that holds the bytes given from offset 0 on. -/
def region (h : Nat) (cap : Nat) (bytes : List Byte) : Region where
  handle := h
  cap := cap
  granted := true
  seed := 0
  cells := bytes.mapIdx fun i b => (i, b)

/-- A state after reset whose input region 0x100 holds the bytes given, with answers to come. -/
def demo (input : List Byte) (answers : List Answer) : State :=
  { State.reset with
    mem := [region 0x100 input.length input], inPtr := 0x100, inLen := input.length, answers := answers }

/-- An `ENCODE` of "a" just accepted. -/
def busyDemo : State := { demo [0x61] [] with busy := true, phase := .encAlloc }

/-- After reset, on a machine whose `SIZE_W` is 16. -/
def narrow : State := { State.reset with sizeW := 16 }

/-- The same with the table built. -/
def built (s : State) : State := { s with dt := sortByLength s.rom, dtValid := true }

/-- Output region 0x1000 in hand, of the capacity and bytes given; `len` bytes used, increment `inc`, zero fill `zero`. -/
def withOut (s : State) (cap : Nat) (bytes : List Byte) (len inc : Nat) (zero : BitVec 1) : State :=
  { s with
    busy := true, mem := regionPut s.mem (region 0x1000 cap bytes),
    work := { s.work with obPtr := .wr 0x1000, obCap := .wr cap, obLen := .wr len, obInc := .wr inc,
                          obZero := .wr zero } }

/-- An `ENCODE` of the input in PHASE `p`: `sym` bytes fetched, `bits` bits written, `left` bits of `code` still to write. -/
def encoding (s : State) (p : Phase) (sym bits : Nat) (code : BitVec 32) (left : BitVec 6) : State :=
  { s with phase := p,
           work := { s.work with symIdx := .wr sym, bitsSet := .wr bits, curCode := .wr code, bitsLeft := .wr left } }

/-- A `DECODE` of the input in PHASE `p`: `done` bits consumed, `pos` bytes written. -/
def decoding (s : State) (p : Phase) (done pos : Nat) : State :=
  { built s with phase := p,
                 work := { s.work with bitsDone := .wr done, bitsTotal := .wr (8 * s.inLen), outPos := .wr pos,
                                       scanK := .wr 3 } }

/-! ### Ill-formed terms, one for each check of WellFormed -/

theorem test_wellFormed_rom_lookup : (Instr.romLookup 256).wellFormed = true ∧ (Instr.romLookup 257).wellFormed = false := by
  decide

theorem test_wellFormed_ob_alloc : (Instr.obAlloc 4 100 true).wellFormed = true ∧ (Instr.obAlloc 4 101 true).wellFormed = false := by
  decide

theorem test_wellFormed_ob_adopt : (Instr.obAdopt 0x2000 1 1000 false).wellFormed = true ∧
    (Instr.obAdopt 0 1 1000 false).wellFormed = false ∧ (Instr.obAdopt 0x2000 1 99 false).wellFormed = false := by
  decide

theorem test_wellFormed_dec_window : (Instr.decWindow 32).wellFormed = true ∧ (Instr.decWindow 1).wellFormed = true ∧
    (Instr.decWindow 0).wellFormed = false ∧ (Instr.decWindow 33).wellFormed = false := by decide

theorem test_wellFormed_dec_emit : (Instr.decEmit 256).wellFormed = true ∧ (Instr.decEmit 257).wellFormed = false := by decide

/-! ### Words written out from the encodings -/

/-- R91: op in bits 1 to 0. -/
theorem test_decode_cmd : decode (.cmd 0b01) = .ok .prewarm ∧ decode (.cmd 0b10) = .ok .encode ∧
    decode (.cmd 0b11) = .ok .decode ∧ decode (.cmd 0b00) = .error .reservedOp ∧
    decode (.cmd 0b101) = .error .reservedBits := by decide +kernel

/-- R97: the op, then the fields in the order of the table. -/
theorem test_decode_areq : decode (.areq 0b001 [128, 0]) = .ok (.areqAlloc 128 false) ∧
    decode (.areq 0b010 [0x1000, 104, 1]) = .ok (.areqGrow 0x1000 104 true) ∧
    decode (.areq 0b011 [0x2000]) = .ok (.areqRelease 0x2000) ∧ decode (.areq 0b100 []) = .ok .areqAllocTable ∧
    decode (.areq 0b000 []) = .error .reservedOp ∧ decode (.areq 0b101 [1]) = .error .reservedOp ∧
    decode (.areq 0b001 [1]) = .error .badArguments ∧ decode (.areq 0b001 [1, 2]) = .error .badArguments ∧
    decode (.areq 0b011 [1, 2]) = .error .trailing := by decide +kernel

/-- R94: the four kinds. -/
theorem test_decode_kind : decode (.kind 0b00 0x1000 1 4) = .ok (.kindOk 0x1000 1 4) ∧
    decode (.kind 0b01 0x2000 3 3) = .ok (.kindOutOfMemory 0x2000 3 3) ∧
    decode (.kind 0b10 0 0 0) = .ok (.kindInitializationFailed 0 0 0) ∧
    decode (.kind 0b11 5 6 7) = .ok (.kindInternal 5 6 7) := by decide +kernel

/-- R108: a 5-bit, a 7-bit, a 13-bit code, and the 30-bit codes of 10 and 256. -/
theorem test_decode_code :
    decode (.code [false, false, false, true, true]) = .ok .huffcode97 ∧
    decode (.code [true, false, true, true, true, false, false]) = .ok .huffcode58 ∧
    decode (.code (List.replicate 10 true ++ [false, false, false])) = .ok .huffcode0 ∧
    decode (.code [false, false, false, true, true, true]) = .error .trailing ∧
    decode (.code (List.replicate 28 true ++ [false, false])) = .ok .huffcode10 ∧
    decode (.code (List.replicate 30 true)) = .ok .huffcode256 ∧
    decode (.code (List.replicate 29 true)) = .error .noCode := by decide +kernel

/-- R98: `(code 0x3, length 5, symbol 97)` is 97 in bits 46 to 38, 5 in 37 to 32, 3 in 31 to 0. -/
theorem test_entry_word : (entry 97 0x3 5).toWord = 0b001100001000101_00000000000000000000000000000011#47 := by decide

/-- The row words the host asks about: 2 bits of a kind, 3 of a request, a code's own length, its length in whole bytes. -/
theorem test_decode_table_word : decodeTableWord 64 2 = some .encode ∧ decodeTableWord 64 0 = none ∧
    decodeTableWord 2 3 = some (.kindInternal 0 0 0) ∧ decodeTableWord 3 4 = some .areqAllocTable ∧
    decodeTableWord 5 3 = some .huffcode97 ∧ decodeTableWord 24 0x7fffd8 = some .huffcode1 ∧
    decodeTableWord 30 0x3fffffff = some .huffcode256 := by decide +kernel

/-! ### One step of each instruction, from the worked examples and the vectors of the spec -/

/-- R142: after reset, granted: `OK`, and `DT_VALID` = 1 with `BUSY` = 0. -/
theorem test_prewarm : resultOf (exec .prewarm (demo [] [.grant 0x1000])) = some (0, 0, 0, 0) ∧
    ((nextOf (exec .prewarm (demo [] [.grant 0x1000]))).map fun s => (s.dtValid, s.busy)) = some (true, false) := by
  decide +kernel

/-- T-DT2: denied. -/
theorem test_prewarm_denied : resultOf (exec .prewarm (demo [] [.deny])) = some (1, 0, 0, 0) := by decide +kernel

/-- T-ENC2 and T-ENC18: "a" is 1F, the slack is zeros. -/
theorem test_encode : resultOf (exec .encode (demo [0x61] [.grant 0x1000])) = some (0, 0x1000, 1, 4) ∧
    bytesOf (exec .encode (demo [0x61] [.grant 0x1000])) 0x1000 4 = some [some 0x1F, some 0, some 0, some 0] := by
  decide +kernel

/-- T-ENC6: a growth that relocates keeps the bytes. -/
theorem test_encode_grows :
    resultOf (exec .encode (demo [0x61, 0x0A] [.grant 0x1000, .grant 0x2000])) = some (0, 0x2000, 5, 104) ∧
    bytesOf (exec .encode (demo [0x61, 0x0A] [.grant 0x1000, .grant 0x2000])) 0x2000 6 =
      some [some 0x1F, some 0xFF, some 0xFF, some 0xFF, some 0x9F, some 0] := by decide +kernel

/-- R210: 1F is "a", then the terminator. -/
theorem test_decode : resultOf (exec .decode (built (demo [0x1F] [.grant 0x2000]))) = some (0, 0x2000, 1, 2) ∧
    bytesOf (exec .decode (built (demo [0x1F] [.grant 0x2000]))) 0x2000 2 = some [some 0x61, some 0] := by decide +kernel

/-- R213: no input: two requests, and the terminator at offset 0. -/
theorem test_decode_nothing :
    resultOf (exec .decode (built (demo [] [.grant 0x1000, .grant 0x2000]))) = some (0, 0x2000, 0, 1000) ∧
    bytesOf (exec .decode (built (demo [] [.grant 0x1000, .grant 0x2000]))) 0x2000 1 = some [some 0] := by decide +kernel

/-- R165: `ALLOC(4, 1)` answered `GRANT(0x1000)`: four zeros. -/
theorem test_areq_alloc : bytesOf (exec (.areqAlloc 4 true) (demo [] [.grant 0x1000])) 0x1000 5 =
    some [some 0, some 0, some 0, some 0, none] := by decide +kernel

/-- T-OB4: `GROW(0x1000, 104, 1)` answered `GRANT(0x2000)`. -/
theorem test_areq_grow :
    bytesOf (exec (.areqGrow 0x1000 104 true) (withOut (demo [] [.grant 0x2000]) 4 [0xFF, 0xFF, 0xFF, 0xF3] 4 100 1))
      0x2000 5 = some [some 0xFF, some 0xFF, some 0xFF, some 0xF3, some 0] ∧
    bytesOf (exec (.areqGrow 0x1000 104 true) (withOut (demo [] [.grant 0x2000]) 4 [0xFF, 0xFF, 0xFF, 0xF3] 4 100 1))
      0x1000 1 = some [none] := by decide +kernel

/-- T-OB8: the region is dead. -/
theorem test_areq_release :
    bytesOf (exec (.areqRelease 0x1000) (withOut (demo [] []) 4 [0, 0, 0, 0] 0 100 1)) 0x1000 1 = some [none] := by
  decide +kernel

/-- R97: granted or denied, no handle. -/
theorem test_areq_alloc_table : (nextOf (exec .areqAllocTable (demo [] [.grant 1]))).map State.ret = some (.table true) ∧
    (nextOf (exec .areqAllocTable (demo [] [.deny]))).map State.ret = some (.table false) := by decide +kernel

/-- R94, R256, R257: the codes of the kinds, and `BUSY` 0 after the end. -/
theorem test_kinds : resultOf (exec (.kindOk 0x1000 1 4) (demo [] [])) = some (0, 0x1000, 1, 4) ∧
    resultOf (exec (.kindOutOfMemory 0x2000 3 3) (demo [] [])) = some (1, 0x2000, 3, 3) ∧
    resultOf (exec (.kindInitializationFailed 0 0 0) (demo [] [])) = some (2, 0, 0, 0) ∧
    resultOf (exec (.kindInternal 0x1000 2 8) (demo [] [])) = some (3, 0x1000, 2, 8) := by decide +kernel

/-- T-ROM5 and T-ROM8. -/
theorem test_rom_lookup :
    (nextOf (exec (.romLookup 97) (demo [] []))).map State.ret = some (.entry (entry 97 0x3 5)) ∧
    (nextOf (exec (.romLookup 256) (demo [] []))).map State.ret = some (.entry (entry 256 0x3fffffff 30)) := by
  decide +kernel

/-- T-DT1. -/
theorem test_dt_build : ((nextOf (exec .dtBuild (demo [] [.grant 1]))).map fun s =>
    ([0, 3, 4, 35, 36, 84, 253, 256].map fun k => s.dt[k]?)) =
      some [some (entry 48 0x0 5), some (entry 97 0x3 5), some (entry 99 0x4 5), some (entry 117 0x2d 6),
            some (entry 58 0x5c 7), some (entry 0 0x1ff8 13), some (entry 10 0x3ffffffc 30),
            some (entry 256 0x3fffffff 30)] := by decide +kernel

/-- T-OB1: the registers after a grant. -/
theorem test_ob_alloc : ((nextOf (exec (.obAlloc 4 100 true) (demo [] [.grant 0x1000]))).map fun s =>
    (s.work.obPtr.value, s.work.obCap.value, s.work.obLen.value, s.work.obInc.value, s.work.obZero.value)) =
      some (0x1000, 4, 0, 100, 1) := by decide +kernel

/-- T-OB9. -/
theorem test_ob_adopt : ((nextOf (exec (.obAdopt 0x2000 1 1000 false) (demo [] []))).map fun s =>
    (s.work.obPtr.value, s.work.obCap.value, s.work.obLen.value, s.work.obInc.value, s.work.obZero.value)) =
      some (0x2000, 1, 0, 1000, 0) := by decide +kernel

/-- T-OB3 and T-OB4: one below the limit asks nothing, at the limit grows. -/
theorem test_ob_ensure :
    ((nextOf (exec (.obEnsure 3) (withOut (demo [] [.grant 0x2000]) 4 [] 4 100 1))).map fun s =>
      (s.work.obCap.value, s.requests)) = some (4, []) ∧
    ((nextOf (exec (.obEnsure 4) (withOut (demo [] [.grant 0x2000]) 4 [] 4 100 1))).map fun s =>
      (s.work.obCap.value, s.requests)) = some (104, [.grow 0x1000 104 true]) := by decide +kernel

/-- T-OB5 and T-OB6: denied, the registers stay; granted, `GROW(0x1000, 1001, 0)`. -/
theorem test_ob_grow :
    ((nextOf (exec .obGrow (withOut (demo [] [.deny]) 4 [] 4 100 1))).map fun s =>
      (s.ret, s.work.obPtr.value, s.work.obCap.value)) = some (.ob .fail, 0x1000, 4) ∧
    ((nextOf (exec .obGrow (withOut (demo [] [.grant 0x3000]) 1 [0x61] 1 1000 0))).map fun s =>
      (s.work.obPtr.value, s.work.obCap.value, s.requests)) =
      some (0x3000, 1001, [.grow 0x1000 1001 false]) := by decide +kernel

/-- T-OB8: the registers after a release. -/
theorem test_ob_release : ((nextOf (exec .obRelease (withOut (demo [] []) 4 [] 4 100 1))).map fun s =>
    (s.work.obPtr.value, s.work.obCap.value, s.work.obLen.value, isLive s.mem 0x1000)) = some (0, 0, 0, false) := by
  decide +kernel

/-- R183: `IN_LEN` = 2 asks for 4 zeroed bytes. -/
theorem test_enc_alloc : ((nextOf (exec .encAlloc { demo [0x61, 0x61] [.grant 0x1000] with
    busy := true, phase := .encAlloc })).map fun s =>
      (s.work.obCap.value, s.work.symIdx.value, s.work.bitsSet.value, s.requests, s.phase)) =
      some (4, 0, 0, [.alloc 4 true], .encFetch) := by decide +kernel

/-- R184: `IN[0]` = 0x61. -/
theorem test_enc_fetch :
    ((nextOf (exec .encFetch (encoding (withOut (demo [0x61] []) 4 [] 0 100 1) .encFetch 0 0 0 0))).map fun s =>
      (s.work.curCode.value, s.work.curLen.value, s.work.bitsLeft.value, s.work.symIdx.value, s.phase)) =
      some (0x3, 5, 5, 1, .encPack) := by decide +kernel

/-- R185, pass 1 of the second 'a': `OUT[0]` stays 0x18, `BITS_SET` 8, `BITS_LEFT` 2. -/
theorem test_enc_pack_first :
    ((nextOf (exec .encPack
      (encoding (withOut (demo [0x61, 0x61] []) 4 [0x18, 0, 0, 0] 1 100 1) .encPack 2 5 0x3 5))).map fun s =>
        (readByte s.mem 0x1000 0, s.work.bitsSet.value, s.work.bitsLeft.value, s.work.obLen.value, s.phase)) =
      some (some 0x18, 8, 2, 1, .encPack) := by decide +kernel

/-- R185, pass 2: `OUT[1]` becomes 0xC0, `BITS_SET` 10, `BITS_LEFT` 0. -/
theorem test_enc_pack_second :
    ((nextOf (exec .encPack
      (encoding (withOut (demo [0x61, 0x61] []) 4 [0x18, 0, 0, 0] 1 100 1) .encPack 2 8 0x3 2))).map fun s =>
        (readByte s.mem 0x1000 1, s.work.bitsSet.value, s.work.bitsLeft.value, s.work.obLen.value, s.phase)) =
      some (some 0xC0, 10, 0, 2, .encFetch) := by decide +kernel

/-- R186: `BITS_SET` = 10, `OUT[1]` = 0xC0 becomes 0xFF, `RES_LEN` = 2. -/
theorem test_enc_pad :
    resultOf (exec .encPad (encoding (withOut (demo [0x61, 0x61] []) 4 [0x18, 0xC0, 0, 0] 2 100 1) .encPad 2 10 0x3 0))
      = some (0, 0x1000, 2, 4) ∧
    bytesOf (exec .encPad (encoding (withOut (demo [0x61, 0x61] []) 4 [0x18, 0xC0, 0, 0] 2 100 1) .encPad 2 10 0x3 0))
      0x1000 2 = some [some 0x18, some 0xFF] := by decide +kernel

/-- R211: denied after reset: `InitializationFailed`, and a supplied buffer is handed back. -/
theorem test_dec_init : resultOf (exec .decInit (demo [0x1F] [.deny])) = some (2, 0, 0, 0) ∧
    resultOf (exec .decInit { demo [0x1F] [.deny] with outPtr := 0x2000, outCap := 7 }) = some (2, 0x2000, 0, 7) := by
  decide +kernel

/-- R212: `IN_LEN` = 2 asks for 4 bytes, `BITS_TOTAL` = 16; a supplied region is adopted without a request. -/
theorem test_dec_start :
    ((nextOf (exec .decStart (built (demo [0x18, 0xFF] [.grant 0x1000])))).map fun s =>
      (s.requests, s.work.bitsTotal.value, s.work.obInc.value, s.phase)) =
      some ([.alloc 4 false], 16, 1000, .scanning) ∧
    ((nextOf (exec .decStart { built (demo [0x18, 0xFF] []) with outPtr := 0x2000, outCap := 1 })).map fun s =>
      (s.requests, s.work.obPtr.value, s.work.obCap.value)) = some ([], 0x2000, 1) := by decide +kernel

/-- R214: input 18 FF, `BITS_DONE` = 5: `MATCH(3)`. -/
theorem test_dec_scan :
    ((nextOf (exec .decScan (decoding (withOut (demo [0x18, 0xFF] []) 4 [0x61] 1 1000 0) .scanning 5 1))).map fun s =>
      (s.ret, s.work.scanK.value, s.phase)) = some (.scan (.found 3), 3, .emit) := by decide +kernel

/-- R226: six ones left are no code of at most 6 bits: `SHORT` at the first 7-bit entry, index 36 (R147). -/
theorem test_dec_scan_short :
    ((nextOf (exec .decScan (decoding (withOut (demo [0x18, 0xFF] []) 4 [0x61, 0x61] 2 1000 0) .scanning 10 2))).map
      fun s => (s.ret, s.work.scanK.value, s.phase)) = some (.scan (.short 36), 36, .term) := by decide +kernel

/-- T-DEC3: lengths 5, 13 and 19 at bit 5 of 1F FF FF FF 9F. -/
theorem test_dec_window : ([5, 13, 19].map fun len => (nextOf (exec (.decWindow len)
    (decoding (withOut (demo [0x1F, 0xFF, 0xFF, 0xFF, 0x9F] []) 10 [] 0 1000 0) .scanning 5 0))).map State.ret) =
      [some (.window 0x1F), some (.window 0x1FFF), some (.window 0x7FFFF)] := by decide +kernel

/-- R218: `OUT_POS` = 1 at `OB_CAP` = 1: grows by 1000 first. -/
theorem test_dec_emit :
    ((nextOf (exec (.decEmit 3) (decoding (withOut (demo [0x18, 0xFF] [.grant 0x3000]) 1 [0x61] 1 1000 0) .emit 5 1))).map
      fun s => (s.requests, readByte s.mem 0x3000 0, readByte s.mem 0x3000 1, s.work.outPos.value,
                s.work.bitsDone.value)) =
      some ([.grow 0x1000 1001 false], some 0x61, some 0x61, 2, 10) := by decide +kernel

/-- R219: `OUT_POS` = 1, `OB_CAP` = 2: the terminator, not counted. -/
theorem test_dec_term :
    resultOf (exec .decTerm (decoding (withOut (demo [0x1F] []) 2 [0x61] 1 1000 0) .term 5 1)) = some (0, 0x1000, 1, 2) ∧
    bytesOf (exec .decTerm (decoding (withOut (demo [0x1F] []) 2 [0x61] 1 1000 0) .term 5 1)) 0x1000 2 =
      some [some 0x61, some 0] := by decide +kernel

/-- R210, R218: the code 00011 emits 'a' and consumes 5 bits. -/
theorem test_huffcode97 :
    ((nextOf (exec .huffcode97 (decoding (withOut (demo [0x1F] []) 2 [] 0 1000 0) .scanning 0 0))).map fun s =>
      (readByte s.mem 0x1000 0, s.work.outPos.value, s.work.bitsDone.value, s.phase)) =
      some (some 0x61, 1, 5, .scanning) := by decide +kernel

/-- R220: the code of 256 emits nothing and consumes nothing. -/
theorem test_huffcode256 :
    ((nextOf (exec .huffcode256 (decoding (withOut (demo [0xFF, 0xFF, 0xFF, 0xFF] []) 8 [] 0 1000 0) .scanning 0 0))).map
      fun s => (s.work.outPos.value, s.work.bitsDone.value, s.phase)) = some (0, 0, .term) := by decide +kernel

/-- `withFetchWord`: the code 00011 in whole bytes is the first instruction after reset. -/
theorem test_step_of_a_row :
    ((nextOf (step (State.reset.withFetchWord 5 3))).map fun s => (s.work.outPos.value, s.work.bitsDone.value)) =
      some (1, 5) ∧
    resultOf (step (State.reset.withFetchWord 64 1)) = some (0, 0, 0, 0) := by decide +kernel

/-- R75: while `BUSY` = 1 HOST takes no step on the input region, and ALLOCATOR acts for CORE alone. -/
theorem test_host_keeps_off : refusalOf (hostPeek 0x100 0 busyDemo) = some (.regionInUse 0x100) ∧
    refusalOf (hostRequest 1 [4, 1] busyDemo) = some .requestWhileBusy ∧
    refusalOf (hostPeek 0x100 0 (demo [0x61] [])) = none := by decide +kernel

/-- R9: the increment 1000 does not fit an `OB_INC` of 9 bits, and does fit one of 10. -/
theorem test_increment_fits : (coreStep { narrow with sizeW := 9, phase := .decStart, outPtr := 1 }).toOption = none ∧
    ((coreStep { narrow with sizeW := 10, phase := .decStart, outPtr := 1 }).toOption.map fun s => s.work.obInc.value) =
      some 1000 := by decide +kernel

/-- R8, R96: with `SIZE_W` = 16 a register takes no 17-bit word, and `IN_LEN` = 2^10 is out of range for every command. -/
theorem test_narrow : refusalOf (hostWrite 3 0x10000 narrow) = some .tooWide ∧
    (nextOf (hostWrite 3 0xFFFF narrow)).map State.inLen = some 0xFFFF ∧
    refusalOf (exec .prewarm { narrow with inLen := 1024 }) = some .outOfRange ∧
    resultOf (exec .prewarm { narrow with inLen := 1023, answers := [Answer.grant 1] }) = some (0, 0, 0, 0) := by
  decide +kernel

/-! ### Witnesses: for each statement a state and operands that meet its hypotheses together -/

/-- An `ENCODE` of "aa" before the last 5 bits, with answers to come. -/
def enc (answers : List Answer) : State :=
  encoding (withOut (demo [0x61, 0x61] answers) 4 [0x18, 0, 0, 0] 1 100 1) .encPack 2 5 0x3 5

/-- The same with the region full: 32 bits written. -/
def encFull (answers : List Answer) : State :=
  encoding (withOut (demo [0x0A, 0x0A] answers) 4 [0xFF, 0xFF, 0xFF, 0xF3] 4 100 1) .encPack 2 32 0x3ffffffc 28

/-- A `DECODE` of 18 FF after the first 'a', with answers to come. -/
def dec (answers : List Answer) : State :=
  decoding (withOut (demo [0x18, 0xFF] answers) 4 [0x61] 1 1000 0) .scanning 5 1

/-- The same with a region of one byte, full. -/
def decFull (answers : List Answer) : State :=
  decoding (withOut (demo [0x18, 0xFF] answers) 1 [0x61] 1 1000 0) .emit 5 1

theorem exists_next {o : Host.Outcome State Fault Refusal} (h : (nextOf o).isSome = true) : ∃ t, o = .next t := by
  cases o with
  | next s => exact ⟨s, rfl⟩
  | fault f => cases h
  | refused r => cases h

theorem some_of_next {α : Type} {o : Host.Outcome State Fault Refusal} {f : State → α} {a : α} {t : State}
    (ht : o = .next t) (h : (nextOf o).map f = some a) : f t = a := by
  subst ht; simpa [nextOf] using h

theorem decoding_dt (s : State) (p : Phase) (d o : Nat) : DtSound (decoding s p d o) := fun _ => rfl

theorem dec_fits : Fits (dec []) := ⟨by decide, by decide +kernel, by decide +kernel, by decide +kernel⟩

theorem dec_sound (answers : List Answer) (h : Memory.wf (dec answers).mem) : Sound (dec answers) :=
  ⟨romH2_wf, decoding_dt _ _ _ _, h, ⟨dec_fits.width, dec_fits.host, dec_fits.work, dec_fits.mem⟩⟩

theorem reset_fits : Fits State.reset := ⟨by decide, by decide, by decide, by decide⟩

theorem demo_sound (input : List Byte) (answers : List Answer) (h : Memory.wf (demo input answers).mem)
    (hn : input.length < 2 ^ 64) : Sound (demo input answers) where
  rom := romH2_wf
  dt := fun hv => Bool.noConfusion hv
  mem := h
  fits :=
    { width := reset_fits.width
      host := by simpa [hostWords, demo, State.reset] using hn
      work := reset_fits.work
      mem := fun r hr => by
        rw [List.mem_singleton.1 hr]
        exact ⟨show (0x100 : Nat) < 2 ^ 64 by decide, hn⟩ }

theorem witness_DecodeOfEncodeIsTheInstruction : Instr.huffcode256.wellFormed = true ∧ Instr.huffcode256.format ≠ .micro ∧
    (Instr.areqGrow 0 0 false).wellFormed = true ∧ (Instr.areqGrow 0 0 false).format ≠ .micro := by decide

theorem witness_EncodeOfDecodeIsTheWords : decode (.cmd 3) = .ok .decode ∧ decode (.areq 4 []) = .ok .areqAllocTable ∧
    decode (.kind 3 1 2 3) = .ok (.kindInternal 1 2 3) ∧ decode (.code (List.replicate 5 false)) = .ok .huffcode48 := by
  decide +kernel

theorem witness_CommandWordsAndReservedWords : (∀ w ∈ [(0 : Nat), 4, 0x8000000000000001], w ≠ 1 ∧ w ≠ 2 ∧ w ≠ 3) ∧
    ((0 : BitVec 3) = 0 ∨ 5 ≤ (0 : BitVec 3).toNat) ∧ 5 ≤ (5 : BitVec 3).toNat := by simp

theorem witness_AtMostOneCodeBeginsABitString : RomWf romH2 ∧
    (entry 97 0x3 5 ∈ romH2 ∧ entry 99 0x4 5 ∈ romH2 ∧ entry 97 0x3 5 ≠ entry 99 0x4 5) ∧
    (entry 97 0x3 5).bits <+: [false, false, false, true, true, true] ∧
    (sortByLength romH2).Perm romH2 ∧
    ((sortByLength romH2).Pairwise fun x y => x.length.toNat ≤ y.length.toNat) ∧
    scanFrom (window (fun _ => 0x1F) 0) 8 0 (sortByLength romH2) = .found 3 ∧
    scanFrom (window (fun _ => 0xFF) 0) 32 0 (sortByLength romH2) = .eos 256 ∧ 4 < 5 :=
  ⟨romH2_wf, by decide +kernel, by decide, sortByLength_perm _, sortByLength_rising _, by decide +kernel,
    by decide +kernel, by decide⟩

theorem witness_RomLookupReturnsTheEntryOfTheSymbol : Wf1 (demo [] []).rom ∧ (256 : BitVec 9).toNat ≤ 256 :=
  ⟨romH2_wf.wf1, by decide⟩

theorem witness_DtBuildWritesTheSortedCopy : (built (demo [] [])).dtValid = true ∧ (demo [] [.deny]).dtValid = false ∧
    (demo [] [.deny]).answers = .deny :: [] ∧ (demo [] [.grant 5]).answers = .grant 5 :: [] := by decide +kernel

theorem witness_SortIsTheUniqueOrderByLengthThenSymbol :
    ([entry 0 0x1ff8 13, entry 48 0 5, entry 97 3 5].Pairwise fun a b => a.symbol.toNat < b.symbol.toNat) ∧
    [entry 48 0 5, entry 97 3 5, entry 0 0x1ff8 13].Perm [entry 0 0x1ff8 13, entry 48 0 5, entry 97 3 5] ∧
    InDtOrder [entry 48 0 5, entry 97 3 5, entry 0 0x1ff8 13] := by unfold InDtOrder; decide

theorem witness_BuiltTableHoldsTheRomEntries : Wf1 (demo [] [.grant 1]).rom ∧ Wf2 (demo [] [.grant 1]).rom ∧
    (demo [] [.grant 1]).dtValid = false ∧
    ∃ t, exec .dtBuild (demo [] [.grant 1]) = .next t ∧ t.ret = .ob .done :=
  ⟨romH2_wf.wf1, romH2_wf.wf2, rfl, _, rfl, by decide +kernel⟩

/-- A step that builds the table: the hypotheses of StepKeepsDtSound, StepKeepsMemoryCanonicalAndWordsInWidth, StepKeepsBusyWithPhase, and the last clause of
RomAndBuiltTablePersist. -/
theorem witness_of_a_step : DtSound { demo [] [.grant 1] with agenda := [.call 1] } ∧
    Memory.wf (demo [] [.grant 1]).mem ∧ Fits { demo [] [.grant 1] with agenda := [.call 1] } ∧
    BusyPhase { demo [] [.grant 1] with agenda := [.call 1] } ∧
    ∃ t, step { demo [] [.grant 1] with agenda := [.call 1] } = .next t ∧ t.dtValid = true := by
  refine ⟨fun h => Bool.noConfusion h, by decide, ⟨by decide, by decide, by decide, by decide⟩, ⟨fun _ => rfl, fun _ => rfl⟩, ?_⟩
  obtain ⟨t, ht⟩ := exists_next (o := step { demo [] [.grant 1] with agenda := [.call 1] }) (by decide +kernel)
  exact ⟨t, ht, some_of_next ht (f := State.dtValid) (by decide +kernel)⟩

/-- A step from a built table, and a reset with it. -/
theorem witness_RomAndBuiltTablePersist : (built (demo [] [])).dtValid = true ∧
    (∃ t, step (built (demo [] [])) = .next t ∧ t.dtValid = true) ∧
    (∃ t, step { built (demo [] []) with agenda := [.reset] } = .next t ∧ t.dtValid = false) :=
  ⟨rfl, ⟨_, rfl, rfl⟩, ⟨_, rfl, rfl⟩⟩

theorem witness_ResetActionRestoresTheResetValues : (demo [0x61] []).busy = false ∧ (enc []).busy = true := by decide

theorem witness_PhaseMovesOnlyAsTabled : ∃ t, coreStep (enc []) = .ok t ∧ t.phase = .encPack ∧ State.reset.phase = .idle := by
  have h : ((coreStep (enc [])).toOption.map State.phase) = some .encPack := by decide +kernel
  cases hc : coreStep (enc []) with
  | error f => rw [hc] at h; cases h
  | ok t => rw [hc] at h; exact ⟨t, rfl, by simpa [Except.toOption] using h, rfl⟩

theorem enc_inv : CommandInv (enc [.grant 0x2000]) where
  sound := ⟨romH2_wf, fun h => Bool.noConfusion h, by decide +kernel,
    ⟨by decide, by decide +kernel, by decide +kernel, by decide +kernel⟩⟩
  busy := rfl
  range := by decide
  phase :=
    ⟨{ ob := { written := by decide, notNull := by decide, region := ⟨_, rfl, rfl, rfl⟩, len := by decide },
       inc := rfl, zero := rfl, input := ⟨_, rfl, by decide⟩, apart := by decide, written := ⟨rfl, rfl⟩,
       index := by decide, bits := by decide, used := by decide, cap := by decide },
     { written := ⟨rfl, rfl⟩, left := by decide, bits := by decide }⟩

theorem dec_inv : CommandInv (dec [.grant 0x2000]) where
  sound := dec_sound _ (by decide +kernel)
  busy := rfl
  range := by decide
  phase :=
    ⟨{ ob := { written := by decide, notNull := by decide, region := ⟨_, rfl, rfl, rfl⟩, len := by decide },
       inc := rfl, zero := rfl, built := rfl, input := .inr ⟨⟨_, rfl, by decide⟩, by decide⟩,
       written := ⟨rfl, rfl, rfl⟩, total := by decide, done := by decide, pos := by decide, len := rfl }, by decide⟩

/-- An `ENCODE` in the middle of a code, and a `DECODE` between two codes. -/
theorem witness_CommandInvIsKept : CommandInv (enc [.grant 0x2000]) ∧ CommandInv (dec [.grant 0x2000]) := ⟨enc_inv, dec_inv⟩

/-- Each command admitted in a sound state: AcceptedCommandMeetsTheInvariant, EveryAdmittedCommandCompletes. -/
theorem witness_of_admitted_commands : Sound (demo [0x61] [.grant 0x1000]) ∧
    admission .prewarm (demo [0x61] [.grant 0x1000]) = none ∧ admission .encode (demo [0x61] [.grant 0x1000]) = none ∧
    admission .decode (demo [0x61] [.grant 0x1000]) = none :=
  ⟨demo_sound _ _ (by decide) (by decide), by decide +kernel, by decide +kernel, by decide +kernel⟩

theorem witness_CommandIsTheCompositionOfItsSteps : (demo [0x61] [.grant 0x1000]).agenda = [] ∧
    decodeCmd 2 = .ok .encode ∧ ∃ t, exec .encode (demo [0x61] [.grant 0x1000]) = .next t :=
  ⟨rfl, by decide +kernel, exists_next (by decide +kernel)⟩

theorem witness_StepRunsTheDecodedInstruction :
    decode (.cmd 1) = .ok .prewarm ∧
    (decode (.areq 3 [0x100]) = .ok (.areqRelease 0x100) ∧ (demo [0x61] []).busy = false) ∧
    ((enc []).busy = true ∧ decode (.kind 0 0 0 0) = .ok (.kindOk 0 0 0)) ∧
    (Instr.encPack.format = .micro ∧ Instr.encPack.wellFormed = true) ∧
    ((dec []).busy = true ∧ (dec []).phase = .scanning ∧ scanReady (dec []) = .ok ()) ∧
    (coreInstr (enc []) = .ok .encPack ∧ (enc []).phase ≠ .build) ∧
    ((accept .prewarm (demo [] [])).busy = true ∧ (accept .prewarm (demo [] [])).phase = .build) :=
  ⟨by decide +kernel, by decide +kernel, by decide +kernel, by decide, ⟨rfl, rfl, rfl⟩, by decide +kernel,
    by decide +kernel⟩

theorem witness_ScanFindsTheDecodedCode : Sound (dec []) ∧ scanReady (dec []) = .ok () ∧
    ∃ r, decodeCode (dec []).dt (bitsAhead (dec [])) = .ok (.huffcode97, r) := by
  refine ⟨dec_sound _ (by decide +kernel), by decide +kernel, ?_⟩
  have h : (decodeCode (dec []).dt (bitsAhead (dec []))).toOption.map Prod.fst = some .huffcode97 := by decide +kernel
  cases hc : decodeCode (dec []).dt (bitsAhead (dec [])) with
  | error e => rw [hc] at h; cases h
  | ok p =>
    rw [hc] at h
    exact ⟨p.2, congrArg Except.ok (Prod.ext (by simpa [Except.toOption] using h) rfl)⟩

/-- A `DECODE` with a supplied region, just accepted. -/
def supplied : State := accept .decode { demo [0x1F] [] with outPtr := 0x50, outCap := 1 }

theorem witness_BytesReadAsLastWritten : (∃ m', writeByte (demo [0x61] []).mem 0x100 0 0x62 = some m') ∧
    ((enc []).busy = true ∧ (enc []).inPtr = 0x100 ∧ (enc []).phase ≠ .build) ∧
    ((enc []).work.obPtr.written = true ∧ (enc []).work.obPtr.value = 0x1000) ∧
    (supplied.busy = true ∧ Sys2Proof.Machine.decoding supplied.phase = true ∧ supplied.outPtr = 0x50 ∧
      supplied.work.obPtr.written = false) :=
  ⟨Option.isSome_iff_exists.1 (by decide +kernel), by decide +kernel, by decide +kernel, by decide +kernel⟩

theorem witness_AccessOutsideARegionFaults :
    readByte (demo [0x61] []).mem (demo [0x61] []).inPtr 1 = none ∧
    readByte (demo [] []).mem (demo [] []).work.obPtr.value 0 = none ∧
    ((encoding { demo [] [] with inLen := 1 } .encFetch 0 0 0 0).work.symIdx.written = true ∧
      (encoding { demo [] [] with inLen := 1 } .encFetch 0 0 0 0).work.symIdx.value ≠ 1 ∧
      readByte (demo [] []).mem 0x100 0 = none) ∧
    ((decFull []).work.obPtr.written = true ∧ (decFull []).work.obCap.written = true ∧
      { decFull [] with mem := [] }.work.outPos.written = true ∧
      { dec [] with mem := [] }.work.outPos.value < { dec [] with mem := [] }.work.obCap.value ∧
      readByte ([] : Memory) 0x1000 1 = none) := by decide +kernel

/-- A `DECODE` of 40 zero bits whose table is of entries of 33 bits, with no output region. -/
def longUnready : State :=
  { decoding (demo [0, 0, 0, 0, 0] []) .scanning 0 0 with dt := List.replicate nsym (entry 0 0 33) }

/-- `State.reset` has written nothing; `encFull`, `decFull` and `longUnready` reach the later reads. -/
theorem witness_UnwrittenRegisterReadFaults :
    ([WName.symIdx, .bitsSet, .bitsLeft, .curCode, .bitsDone, .bitsTotal, .scanK, .outPos, .obCap, .obPtr, .obInc, .obZero].all
      fun r => !State.reset.work.isWritten r) = true ∧
    (encFull []).work.obCap.value ≤ (encFull []).work.bitsSet.value / 8 ∧
    (scanReady longUnready = .ok () ∧ scanResult longUnready = .internal 0 ∧ longUnready.work.isWritten .obPtr = false) ∧
    (1 ≤ (1 : BitVec 6).toNat ∧ (32 : BitVec 6).toNat ≤ 32) ∧
    ((dec []).dtValid = true ∧ (dec []).dt[3]? = some (entry 97 3 5) ∧ (entry 97 3 5).symbol.toNat ≤ 255 ∧
      (dec []).work.outPos.value < (dec []).work.obCap.value ∧ (decFull []).work.obCap.value ≤ (decFull []).work.outPos.value) ∧
    (enc []).work.obCap.value ≤ 4 ∧ ({ demo [] [] with phase := .emit }).phase = .emit ∧
    (State.reset.dtValid = false ∧ Instr.huffcode256.symbol? = some 256) ∧
    ({ dec [] with dtValid := false }.work.bitsDone.written = true ∧
      { dec [] with dtValid := false }.work.bitsTotal.written = true) := by decide +kernel

/-- The widest size, and one bit more. -/
theorem witness_AllocRequestGrantsAFreshRegion : (2 ^ 16 - 1 < 2 ^ narrow.sizeW ∧ 2 ^ narrow.sizeW ≤ 2 ^ 16) ∧
    (demo [] [.deny]).answers = .deny :: [] ∧
    ((demo [] [.grant 1]).answers = .grant 1 :: [] ∧ 1 < 2 ^ (demo [] [.grant 1]).sizeW ∧ 1 ≠ nullHandle ∧
      isLive (demo [] [.grant 1]).mem 1 = false) := by
  decide +kernel

/-- A growth by one byte, in place or to a fresh handle; a dead handle; a size equal to the capacity; a size too wide. -/
theorem witness_GrowRequestKeepsTheBytes :
    (Memory.wf (demo [0x61] []).mem ∧ regionGet (demo [0x61] []).mem 0x100 = some (region 0x100 1 [0x61]) ∧
      (region 0x100 1 [0x61]).cap < 2 ∧ 2 < 2 ^ (demo [0x61] []).sizeW ∧ 0x200 < 2 ^ (demo [0x61] []).sizeW ∧
      0x200 ≠ nullHandle ∧ isLive (demo [0x61] []).mem 0x200 = false) ∧
    isLive (demo [0x61] []).mem 0x200 = false ∧ 1 ≤ (region 0x100 1 [0x61]).cap ∧
    2 ^ (demo [0x61] []).sizeW ≤ 2 ^ 64 := by decide +kernel

theorem witness_ReleaseRequestMakesTheRegionDead : isLive (demo [0x61] []).mem 0x100 = true ∧
    isLive (demo [0x61] []).mem 0x101 = false := by decide +kernel

theorem witness_TableRequestIsAnswered : (demo [] [.deny]).answers = .deny :: [] ∧
    (demo [] [.grant 0]).answers = .grant 0 :: [] := by decide

theorem witness_ObAllocObtainsARegion : (4 < 2 ^ (demo [] [.deny]).sizeW ∧ 100 < 2 ^ (demo [] [.deny]).sizeW) ∧
    (demo [] [.deny]).answers = .deny :: [] ∧
    ((demo [] [.grant 7]).answers = .grant 7 :: [] ∧ 7 < 2 ^ (demo [] [.grant 7]).sizeW ∧ 7 ≠ nullHandle ∧
      isLive (demo [] [.grant 7]).mem 7 = false) := by
  decide +kernel

theorem witness_ObAdoptTakesTheSuppliedRegion : 0x2000 < 2 ^ narrow.sizeW ∧ 1 < 2 ^ narrow.sizeW ∧
    1000 < 2 ^ narrow.sizeW := by decide

theorem witness_ObEnsureGrowsAtOrPastTheCapacity : (enc []).work.obCap.written = true ∧
    3 < (enc []).work.obCap.value ∧ (enc []).work.obCap.value ≤ 4 := by decide +kernel

theorem witness_ObGrowAddsTheIncrement :
    (∀ x ∈ [WName.obPtr, .obCap, .obInc, .obZero], (enc []).work.isWritten x = true) ∧
    (enc []).work.obCap.value + (enc []).work.obInc.value < 2 ^ (enc []).sizeW ∧ Memory.wf (enc []).mem ∧
    (regionGet (enc []).mem (enc []).work.obPtr.value).map Region.cap = some 4 ∧
    4 < (enc []).work.obCap.value + (enc []).work.obInc.value ∧
    (regionGet { enc [] with mem := [] }.mem (enc []).work.obPtr.value) = none := by decide +kernel

theorem witness_ObReleaseGivesTheRegionBack : (enc []).work.obPtr.written = true ∧
    isLive (enc []).mem (enc []).work.obPtr.value = true ∧
    isLive { enc [] with mem := [] }.mem (enc []).work.obPtr.value = false := by decide +kernel

/-- The table present; denied; granted; a command in progress; `IN_LEN` one below and at the limit of a `SIZE_W` of 16. -/
theorem witness_PrewarmBuildsTheTableOnce :
    ((built (demo [] [])).inLen < 2 ^ ((built (demo [] [])).sizeW - 6) ∧ (built (demo [] [])).busy = false ∧
      (built (demo [] [])).dtValid = true) ∧
    ((demo [] [.deny]).inLen < 2 ^ ((demo [] [.deny]).sizeW - 6) ∧ (demo [] [.deny]).busy = false ∧
      (demo [] [.deny]).dtValid = false ∧ (demo [] [.deny]).answers = .deny :: []) ∧
    (demo [] [.grant 1]).answers = .grant 1 :: [] ∧
    ((enc []).inLen < 2 ^ ((enc []).sizeW - 6) ∧ (enc []).busy = true) ∧
    ({ narrow with inLen := 1023 }.inLen < 2 ^ (narrow.sizeW - 6) ∧ 2 ^ (narrow.sizeW - 6) ≤ { narrow with inLen := 1024 }.inLen) := by
  decide +kernel

/-- Operands of the four ends that fit. -/
theorem witness_CompleteAndRaiseEndTheCommand : 0xFFFF < 2 ^ narrow.sizeW := by decide

theorem witness_EncAllocObtainsTheInitialBuffer : cap0 (demo [0x61] [.grant 9]).inLen < 2 ^ (demo [0x61] [.grant 9]).sizeW ∧
    100 < 2 ^ (demo [0x61] [.grant 9]).sizeW ∧ 9 < 2 ^ (demo [0x61] [.grant 9]).sizeW ∧
    (demo [0x61] [.grant 9]).answers = .grant 9 :: [] ∧ (9 : Nat) ≠ nullHandle ∧
    isLive (demo [0x61] [.grant 9]).mem 9 = false ∧ (demo [0x61] [.deny]).answers = .deny :: [] := by decide +kernel

/-- The last byte still to fetch, and the input exhausted. -/
theorem witness_EncFetchLooksUpTheNextByte :
    ((encoding (demo [0x61] []) .encFetch 0 0 0 0).work.symIdx.written = true ∧
      (demo [0x61] []).inLen < 2 ^ (demo [0x61] []).sizeW ∧
      (encoding (demo [0x61] []) .encFetch 0 0 0 0).work.symIdx.value < (demo [0x61] []).inLen ∧
      readByte (demo [0x61] []).mem 0x100 0 = some 0x61 ∧ (demo [0x61] []).rom[0x61]? = some (entry 97 3 5)) ∧
    (encoding (demo [0x61] []) .encFetch 1 0 0 0).work.symIdx.value = (demo [0x61] []).inLen := by decide +kernel

theorem witness_EncPackWritesOneChunk :
    (∀ r ∈ [WName.bitsSet, .bitsLeft, .curCode, .obPtr, .obCap], (enc []).work.isWritten r = true) ∧
    (enc []).work.bitsSet.value / 8 < (enc []).work.obCap.value ∧
    (enc []).work.bitsSet.value + 3 < 2 ^ (enc []).sizeW ∧ 0 + 1 < 2 ^ (enc []).sizeW ∧
    readByte (enc []).mem (enc []).work.obPtr.value 0 = some 0x18 := by decide +kernel

theorem witness_EncPackGrowsOrUnwinds :
    (∀ x ∈ [WName.bitsSet, .bitsLeft, .curCode, .obPtr, .obCap, .obInc, .obZero], (encFull []).work.isWritten x = true) ∧
    (encFull []).work.obCap.value ≤ (encFull []).work.bitsSet.value / 8 ∧
    (encFull []).work.bitsSet.value / 8 <
      (encFull []).work.obCap.value + (encFull []).work.obInc.value ∧
    (encFull []).work.obCap.value + (encFull []).work.obInc.value < 2 ^ (enc []).sizeW ∧
    (regionGet (encFull []).mem (encFull []).work.obPtr.value).map Region.cap = some 4 ∧
    (∃ s1, exec .obGrow (encFull [.grant 0x2000]) = .next s1 ∧ s1.ret = .ob .done) ∧
    (∃ s1, exec .obGrow (encFull [.deny]) = .next s1 ∧ s1.ret = .ob .fail) :=
  ⟨by decide +kernel, by decide +kernel, by decide +kernel, by decide +kernel, by decide +kernel,
    ⟨_, rfl, by decide +kernel⟩, ⟨_, rfl, by decide +kernel⟩⟩

/-- A last byte of 2 bits, and a full one. -/
theorem witness_EncPadFillsTheLastByteWithOnes :
    (∀ x ∈ [WName.bitsSet, .obPtr, .obCap], (encFull []).work.isWritten x = true) ∧
    ((encFull []).work.bitsSet.value + 7) / 8 < 2 ^ (encFull []).sizeW ∧
    ((enc []).work.bitsSet.value + 7) / 8 < 2 ^ (enc []).sizeW ∧
    (encFull []).work.bitsSet.value % 8 = 0 ∧ (enc []).work.bitsSet.value % 8 ≠ 0 ∧
    readByte (enc []).mem (enc []).work.obPtr.value 0 = some 0x18 := by decide +kernel

/-- A null handle, no length, a dead handle, a length at the limit. -/
theorem witness_EncodeOfNothingIsNoResult : (demo [] []).busy = false ∧
    ({ demo [0x61] [] with inPtr := 0 }.inLen < 2 ^ ((demo [0x61] []).sizeW - 6) ∧ { demo [0x61] [] with inPtr := 0 }.inPtr = nullHandle) ∧
    (demo [] []).inLen = 0 ∧
    ({ demo [0x61] [] with mem := [] }.inPtr ≠ nullHandle ∧ { demo [0x61] [] with mem := [] }.inLen ≠ 0 ∧
      ¬InputLive { demo [0x61] [] with mem := [] }) ∧
    2 ^ ((demo [] []).sizeW - 6) ≤ { demo [] [] with inLen := 0x400000000000000 }.inLen :=
  ⟨rfl, by decide, by decide, ⟨by decide, by decide, fun ⟨r, h, _⟩ => by cases h⟩, by decide⟩

theorem witness_EncodeNeverEndsWithAnError : Sound (demo [0x61] [.deny]) ∧ admission .encode (demo [0x61] [.deny]) = none :=
  ⟨demo_sound _ _ (by decide) (by decide), by decide +kernel⟩

theorem witness_EncodeWritesTheCodeStream : Sound (demo [0x61] [.grant 1, .grant 2, .grant 3]) ∧
    admission .encode (demo [0x61] [.grant 1, .grant 2, .grant 3]) = none ∧
    (demo [0x61] [.grant 1, .grant 2, .grant 3]).inPtr ≠ nullHandle ∧
    (demo [0x61] [.grant 1, .grant 2, .grant 3]).inLen ≠ 0 ∧ Grants 3 (demo [0x61] [.grant 1, .grant 2, .grant 3]) :=
  ⟨demo_sound _ _ (by decide) (by decide), by decide +kernel, by decide, by decide, by decide, by decide, by decide⟩

theorem witness_EncodeIgnoresTheDecodeTable : ∃ t, exec .encode (demo [0x61] [.grant 1]) = .next t :=
  exists_next (by decide +kernel)

theorem witness_DecInitBuildsTheTableOrFails : (dec []).dtValid = true ∧ (demo [0x61] [.deny]).dtValid = false ∧
    (∃ s1, exec .dtBuild (demo [0x61] [.deny]) = .next s1 ∧ s1.ret = .ob .fail) ∧
    (∃ s1, exec .dtBuild (demo [0x61] [.grant 1]) = .next s1 ∧ s1.ret = .ob .done) :=
  ⟨rfl, rfl, ⟨_, rfl, by decide +kernel⟩, ⟨_, rfl, by decide +kernel⟩⟩

theorem witness_DecStartSetsTheBufferAndTheCounters : 8 * (demo [0x61] []).inLen < 2 ^ (demo [0x61] []).sizeW ∧
    1000 < 2 ^ (demo [0x61] []).sizeW ∧
    { demo [0x61] [] with outPtr := 0x2000 }.outPtr ≠ nullHandle ∧ (demo [0x61] []).outPtr = nullHandle ∧
    (∃ s1, exec (.obAlloc 2 1000 false) (demo [0x61] [.grant 1]) = .next s1 ∧ s1.ret = .ob .done) ∧
    (∃ s1, exec (.obAlloc 2 1000 false) (demo [0x61] [.deny]) = .next s1 ∧ s1.ret = .ob .fail) :=
  ⟨by decide, by decide, by decide, rfl, ⟨_, rfl, by decide +kernel⟩, ⟨_, rfl, by decide +kernel⟩⟩

/-- The boundary lengths, the largest the input still holds, and those refused. -/
theorem witness_WindowIsTheStreamBits : (dec []).work.bitsDone.written = true ∧
    (1 ≤ (1 : BitVec 6).toNat ∧ (32 : BitVec 6).toNat ≤ 32 ∧ ((dec []).inLen = 0 ∨ InputLive (dec []))) ∧
    (11 : BitVec 6).toNat ≤ 8 * (dec []).inLen - (dec []).work.bitsDone.value ∧
    ((0 : BitVec 6).toNat = 0 ∧ 32 < (33 : BitVec 6).toNat) :=
  ⟨rfl, ⟨by decide, by decide, .inr ⟨_, rfl, by decide⟩⟩, by decide, by decide⟩

/-- The state of the clauses of the scan: entry 0 is reached at once, and 3 is the match; a table of one long entry for the others. -/
theorem witness_DecScanFindsTheFirstMatch : (dec []).work.bitsDone.written = true ∧ (dec []).work.bitsTotal.written = true ∧
    (dec []).dtValid = true ∧ (dec []).dt.length = nsym ∧ InputLive (dec []) ∧
    (dec []).dt[0]? = some (entry 48 0 5) ∧ (dec []).dt[3]? = some (entry 97 3 5) ∧
    (∀ j < 3, ∀ e, (dec []).dt[j]? = some e →
      e.length.toNat ≤ 11 ∧ e.length.toNat ≤ 32 ∧ streamBits (inputByte (dec [])) 5 e.length.toNat ≠ e.code.toNat) := by
  refine ⟨rfl, rfl, rfl, by decide +kernel, ⟨_, rfl, by decide⟩, by decide +kernel, by decide +kernel, fun j hj e he => ?_⟩
  have h : ((List.range 3).all fun j => ((dec []).dt[j]?).all fun e => decide (e.length.toNat ≤ 11) &&
      streamBits (inputByte (dec [])) 5 e.length.toNat != e.code.toNat) = true := by decide +kernel
  have h1 := List.all_eq_true.1 h j (List.mem_range.2 hj)
  rw [he] at h1
  simp at h1
  exact ⟨h1.1, by omega, h1.2⟩

/-- The clauses an entry can stop the scan in: too few bits, and no entry left; the others follow. -/
theorem witness_DecScanFindsTheFirstMatch_stops :
    (let s := { dec [] with dt := List.replicate nsym (entry 0 0 12) };
      s.dt.length = nsym ∧ s.dt[0]? = some (entry 0 0 12) ∧ 16 - 5 < (entry 0 0 12).length.toNat) ∧
    (let s := { dec [] with dt := List.replicate nsym (entry 0 0 5) };
      (s.dt.all fun e => decide (e.length.toNat ≤ 11) && streamBits (inputByte s) 5 e.length.toNat != e.code.toNat) = true) := by
  decide +kernel

/-- A `DECODE` of 40 zero bits whose table is of entries of 33 bits. -/
def longEntry : State :=
  { decoding (withOut (demo [0, 0, 0, 0, 0] []) 4 [] 0 1000 0) .scanning 0 0 with dt := List.replicate nsym (entry 0 0 33) }

/-- A `DECODE` of 32 ones. -/
def onlyOnes : State := decoding (withOut (demo [0xFF, 0xFF, 0xFF, 0xFF] []) 4 [] 0 1000 0) .scanning 0 0

/-- The `Internal` clause: a built table of 257 entries whose first is 33 bits long, and 40 bits of readable input; all of the statement's hypotheses. -/
theorem witness_DecScanFindsTheFirstMatch_internal :
    let s := longEntry
    s.work.bitsDone.written = true ∧ s.work.bitsTotal.written = true ∧ s.dtValid = true ∧ s.dt.length = nsym ∧ InputLive s ∧
      s.dt[0]? = some (entry 0 0 33) ∧
      (entry 0 0 33).length.toNat ≤ s.work.bitsTotal.value - s.work.bitsDone.value ∧ 32 < (entry 0 0 33).length.toNat ∧
      (∀ x ∈ [WName.obPtr, .outPos, .obCap], s.work.isWritten x = true) ∧
      (nextOf (exec .decScan s)).map State.resKind = some 3 :=
  ⟨rfl, rfl, rfl, by decide +kernel, ⟨_, rfl, by decide +kernel⟩, by decide +kernel, by decide +kernel, by decide +kernel,
    by decide +kernel, by decide +kernel⟩

/-- The `EOS` clause: the default table and an input of 32 ones: no entry before index 256 equals the stream, and the code of 256 does. -/
theorem witness_DecScanFindsTheFirstMatch_eos :
    let s := onlyOnes
    s.work.bitsDone.written = true ∧ s.work.bitsTotal.written = true ∧ s.dtValid = true ∧ s.dt.length = nsym ∧ InputLive s ∧
      s.dt[256]? = some (entry 256 0x3fffffff 30) ∧
      ((s.dt.take 256).all fun e => decide (e.length.toNat ≤ 32) &&
        streamBits (inputByte s) 0 e.length.toNat != e.code.toNat) = true ∧
      streamBits (inputByte s) 0 30 = (entry 256 0x3fffffff 30).code.toNat ∧ (entry 256 0x3fffffff 30).symbol.toNat = 256 ∧
      (nextOf (exec .decScan s)).map State.ret = some (.scan (.eos 256)) :=
  ⟨rfl, rfl, rfl, by decide +kernel, ⟨_, rfl, by decide +kernel⟩, by decide +kernel, by decide +kernel, by decide +kernel,
    by decide +kernel, by decide +kernel⟩

theorem witness_DecEmitWritesTheSymbol : (dec []).dtValid = true ∧ (dec []).dt[3]? = some (entry 97 3 5) ∧
    (entry 97 3 5).symbol.toNat ≤ 255 ∧
    (∀ x ∈ [WName.obPtr, .obCap, .outPos, .bitsDone, .bitsTotal], (dec []).work.isWritten x = true) ∧
    (decFull []).work.obInc.written = true ∧ (decFull []).work.obZero.written = true ∧
    (decFull []).work.obCap.value ≤ (decFull []).work.outPos.value ∧
    (decFull []).work.outPos.value < (decFull []).work.obCap.value + (decFull []).work.obInc.value ∧
    (decFull []).work.obCap.value + (decFull []).work.obInc.value < 2 ^ (decFull []).sizeW ∧
    (regionGet (decFull []).mem (decFull []).work.obPtr.value).map Region.cap = some 1 ∧
    (∃ s1, exec .obGrow (decFull [.grant 0x3000]) = .next s1 ∧ s1.ret = .ob .done) ∧
    (∃ s1, exec .obGrow (decFull [.deny]) = .next s1 ∧ s1.ret = .ob .fail) :=
  ⟨rfl, by decide +kernel, by decide, by decide +kernel, rfl, rfl, by decide +kernel, by decide +kernel, by decide +kernel, by decide +kernel,
    ⟨_, rfl, by decide +kernel⟩, ⟨_, rfl, by decide +kernel⟩⟩

/-- The clauses of DecEmitWritesTheSymbol, DecTermWritesTheTerminator and CodesEmitTheirSymbols that write in place: the last byte of a region of 2. -/
theorem witness_of_a_write_in_place :
    (let s := decoding (withOut (demo [0x18, 0xFF] []) 2 [0x61, 0x62] 1 1000 0) .scanning 5 1;
      s.work.outPos.value < s.work.obCap.value ∧
      readByte s.mem s.work.obPtr.value s.work.outPos.value = some 0x62 ∧
      s.work.outPos.value + 1 < 2 ^ s.sizeW ∧ s.work.bitsDone.value + 5 < 2 ^ s.sizeW) := by decide +kernel

theorem witness_DecTermWritesTheTerminator :
    (∀ x ∈ [WName.obPtr, .obCap, .outPos], (decFull []).work.isWritten x = true) ∧
    (decFull []).work.obCap.value ≤ (decFull []).work.outPos.value ∧
    (decFull []).work.obCap.value + (decFull []).work.obInc.value < 2 ^ (decFull []).sizeW := by decide +kernel

theorem witness_DecodeEndsAsTabled : Sound (demo [0x1F] [.deny]) ∧ admission .decode (demo [0x1F] [.deny]) = none :=
  ⟨demo_sound _ _ (by decide) (by decide), by decide +kernel⟩

theorem witness_DecodeComputesTheParse : Sound (demo [0x1F] (List.replicate 4 (.grant 1))) ∧
    admission .decode (demo [0x1F] (List.replicate 4 (.grant 1))) = none ∧ Grants 4 (demo [0x1F] (List.replicate 4 (.grant 1))) :=
  ⟨demo_sound _ _ (by decide) (by decide), by decide +kernel, by decide, by decide, by decide⟩

theorem witness_DecodeOfEncodeIsTheInput : Sound (demo [0x61] (List.replicate 5 (.grant 0x1000))) ∧
    ∃ t, exec .encode (demo [0x61] (List.replicate 5 (.grant 0x1000))) = .next t ∧ t.resPtr ≠ nullHandle ∧
      t.resLen < 2 ^ (t.sizeW - 6) ∧
      Grants (t.resLen + 3) { t with inPtr := t.resPtr, inLen := t.resLen, outPtr := nullHandle } := by
  refine ⟨demo_sound _ _ (by decide) (by decide), ?_⟩
  obtain ⟨t, ht⟩ := exists_next (o := exec .encode (demo [0x61] (List.replicate 5 (.grant 0x1000)))) (by decide +kernel)
  have h1 : t.resPtr = 0x1000 := some_of_next ht (f := State.resPtr) (by decide +kernel)
  have h2 : t.resLen = 1 := some_of_next ht (f := State.resLen) (by decide +kernel)
  have h3 : t.answers = List.replicate 4 (.grant 0x1000) := some_of_next ht (f := State.answers) (by decide +kernel)
  have h4 : t.mem.length = 2 := some_of_next ht (f := fun u => u.mem.length) (by decide +kernel)
  have h5 : t.sizeW = 64 := some_of_next ht (f := State.sizeW) (by decide +kernel)
  refine ⟨t, ht, by rw [h1]; decide, by rw [h2, h5]; decide, ?_⟩
  simp [Grants, h2, h3, h4, h5]

theorem witness_CodesEmitTheirSymbols : Instr.huffcode0.symbol? = some 0 ∧ Instr.huffcode255.symbol? = some 255 ∧
    Instr.huffcode256.symbol? = some 256 ∧ Sound (dec []) ∧ (dec []).dtValid = true ∧
    (∀ x ∈ [WName.obPtr, .obCap, .outPos, .bitsDone, .bitsTotal], (dec []).work.isWritten x = true) ∧
    (dec []).work.outPos.value < (dec []).work.obCap.value ∧
    (dec []).work.outPos.value + 1 < 2 ^ (dec []).sizeW ∧ (dec []).work.bitsDone.value + 30 < 2 ^ (dec []).sizeW :=
  ⟨rfl, rfl, rfl, dec_sound _ (by decide +kernel), rfl, by decide +kernel, by decide +kernel, by decide +kernel, by decide +kernel⟩

theorem witness_HostReadsTheRegisters : State.reset.busy = false ∧ (enc []).busy = true ∧
    (6 ≤ 6 ∧ 6 ≤ 9) ∧ (6 ≤ 9 ∧ 9 ≤ 9) ∧ 10 ≤ 10 := by decide

theorem witness_HostWritesTheRegisters : (narrow.busy = false ∧ 0xFFFF < 2 ^ narrow.sizeW ∧ 2 ^ narrow.sizeW ≤ 0x10000) ∧
    (enc []).busy = true ∧ (2 ≤ 2 ∧ 5 ≤ 5) ∧
    (decodeCmd 2 = .ok .encode ∧ commandOf .encode = some .encode ∧ admission .encode (demo [0x61] []) = none) ∧
    ((demo [0x61] []).dtValid = false ∧ (demo [0x61] []).inPtr ≠ nullHandle ∧ (demo [0x61] []).inLen ≠ 0) ∧
    ((1 = 1 ∨ (6 ≤ 1 ∧ 1 ≤ 9)) ∧ (9 = 1 ∨ (6 ≤ 9 ∧ 9 ≤ 9))) ∧ 10 ≤ 10 := by decide +kernel

end Sys2Proof.Tests
end

section
/-! PROOFS, family 00_scope: what a step keeps, the two levels of R6, the dispatch of a step, HOST's writes. -/

namespace Sys2Proof.Machine

open Sys2Proof

/-! ### Peeling a run that may fault -/

/-- A run in two parts that goes on has gone on in both. -/
theorem ok_of_bind {α β : Type} {x : Except Fault α} {f : α → Except Fault β} {b : β} (h : (x >>= f) = .ok b) :
    ∃ a, x = .ok a ∧ f a = .ok b := by
  cases x with
  | error e => cases h
  | ok a => exact ⟨a, rfl, h⟩

/-! ### The words that must fit -/

theorem workWords_lt_iff (w : Work) (n : Nat) : (∀ v ∈ workWords w, v < n) ↔
    w.symIdx.value < n ∧ w.bitsSet.value < n ∧ w.bitsDone.value < n ∧ w.bitsTotal.value < n ∧ w.outPos.value < n ∧
      w.obPtr.value < n ∧ w.obCap.value < n ∧ w.obLen.value < n ∧ w.obInc.value < n := by
  simp [workWords]

theorem hostWords_lt_iff (s : State) (n : Nat) : (∀ v ∈ hostWords s, v < n) ↔
    s.inPtr < n ∧ s.inLen < n ∧ s.outPtr < n ∧ s.outCap < n ∧ s.resPtr < n ∧ s.resLen < n ∧ s.resCap < n := by
  simp [hostWords]

/-- Operand words that pass the check of their width do fit. -/
theorem lt_of_wordsFit {s : State} {vs : List Nat} (h : wordsFit s vs = true) {v : Nat} (hv : v ∈ vs) :
    v < 2 ^ s.sizeW := (wordsFit_iff s vs).1 h v hv

/-! ### What a move keeps -/

/-- From `s` to `t` the regions stay canonical, and every word stays within its width (R8, R60, R61). -/
structure Keeps (s t : State) : Prop where
  wf : Memory.wf s.mem → Memory.wf t.mem
  fits : Fits s → Fits t

theorem Keeps.refl (s : State) : Keeps s s := ⟨id, id⟩

theorem Keeps.trans {s t u : State} (h : Keeps s t) (h' : Keeps t u) : Keeps s u :=
  ⟨h'.wf ∘ h.wf, h'.fits ∘ h.fits⟩

/-- What CORE and ALLOCATOR never write: `SIZE_W`, `ROM`, the operand registers, the actions to come (R8, R22, R38). -/
structure CoreFrame (s t : State) : Prop where
  sizeW : t.sizeW = s.sizeW := by rfl
  rom : t.rom = s.rom := by rfl
  inPtr : t.inPtr = s.inPtr := by rfl
  inLen : t.inLen = s.inLen := by rfl
  outPtr : t.outPtr = s.outPtr := by rfl
  outCap : t.outCap = s.outCap := by rfl
  agenda : t.agenda = s.agenda := by rfl

theorem CoreFrame.trans {s t u : State} (h : CoreFrame s t) (h' : CoreFrame t u) : CoreFrame s u where
  sizeW := h'.sizeW.trans h.sizeW
  rom := h'.rom.trans h.rom
  inPtr := h'.inPtr.trans h.inPtr
  inLen := h'.inLen.trans h.inLen
  outPtr := h'.outPtr.trans h.outPtr
  outCap := h'.outCap.trans h.outCap
  agenda := h'.agenda.trans h.agenda

/-- A move of CORE or ALLOCATOR: it keeps what every move keeps, within its frame. -/
structure CoreMove (s t : State) : Prop extends Keeps s t, CoreFrame s t

theorem CoreMove.refl (s : State) : CoreMove s s where
  toKeeps := .refl s

theorem CoreMove.trans {s t u : State} (h : CoreMove s t) (h' : CoreMove t u) : CoreMove s u where
  toKeeps := h.toKeeps.trans h'.toKeeps
  toCoreFrame := h.toCoreFrame.trans h'.toCoreFrame

/-! ### The updates of the state, at the end of a move -/

/-- The working registers a move leaves fit. -/
theorem CoreMove.work_lt {s t : State} (h : CoreMove s t) (hf : Fits s) : ∀ v ∈ workWords t.work, v < 2 ^ s.sizeW :=
  h.sizeW ▸ (h.fits hf).work

theorem CoreMove.withPhase {s t : State} (h : CoreMove s t) (p : Phase) : CoreMove s (t.withPhase p) :=
  h.trans { wf := id, fits := fun hf => ⟨hf.width, hf.host, hf.work, hf.mem⟩ }

theorem CoreMove.withRet {s t : State} (h : CoreMove s t) (r : Ret) : CoreMove s (t.withRet r) :=
  h.trans { wf := id, fits := fun hf => ⟨hf.width, hf.host, hf.work, hf.mem⟩ }

theorem CoreMove.useFree {s t : State} (h : CoreMove s t) (n : Nat) : CoreMove s (t.useFree n) :=
  h.trans { wf := id, fits := fun hf => ⟨hf.width, hf.host, hf.work, hf.mem⟩ }

/-- Working registers may be written with any words that fit. -/
theorem CoreMove.withWork {s t : State} (h : CoreMove s t) {w : Work}
    (hw : Fits s → ∀ v ∈ workWords w, v < 2 ^ s.sizeW) : CoreMove s (t.withWork w) where
  toKeeps := ⟨h.wf, fun hf => ⟨(h.fits hf).width, (h.fits hf).host, h.sizeW ▸ hw hf, (h.fits hf).mem⟩⟩
  toCoreFrame := h.toCoreFrame.trans {}

/-- A command may end with any result words that fit (R256, R257). -/
theorem CoreMove.ended {s t : State} (h : CoreMove s t) (k : Kind) {ptr len cap : Nat}
    (hr : Fits s → ptr < 2 ^ s.sizeW ∧ len < 2 ^ s.sizeW ∧ cap < 2 ^ s.sizeW) :
    CoreMove s (endCommand k ptr len cap t) where
  toKeeps := ⟨h.wf, fun hf => by
    have ht := h.fits hf
    obtain ⟨hip, hil, hop, hoc, -, -, -⟩ := (hostWords_lt_iff t _).1 ht.host
    exact ⟨ht.width, (hostWords_lt_iff _ _).2 ⟨hip, hil, hop, hoc, h.sizeW ▸ hr hf⟩, unspecified_fits _ _, ht.mem⟩⟩
  toCoreFrame := h.toCoreFrame.trans {}

/-- The end of a command that reports no region. -/
theorem CoreMove.ended_null {s t : State} (h : CoreMove s t) (k : Kind) :
    CoreMove s (endCommand k nullHandle 0 0 t) :=
  h.ended k fun _ => ⟨Nat.two_pow_pos _, Nat.two_pow_pos _, Nat.two_pow_pos _⟩

theorem coreMove_beginCommand (p : Phase) (s : State) : CoreMove s (beginCommand p s) where
  wf := id
  fits h := ⟨h.width, h.host, unspecified_fits _ _, h.mem⟩

/-! ### The allocator interface -/

/-- A request is a move if what it leaves of the regions is. -/
theorem coreMove_of_request {s : State} {m : Memory} {as : List Answer} {rs : List Request} {n : Nat}
    (hwf : Memory.wf s.mem → Memory.wf m) (hfits : Fits s → MemFits s.sizeW m) :
    CoreMove s { s with mem := m, answers := as, requests := rs, freeNext := n } where
  wf := hwf
  fits h := ⟨h.width, h.host, h.work, hfits h⟩

theorem reqAlloc_move {size : Nat} (zero : Bool) {s : State} (hs : size < 2 ^ s.sizeW) :
    CoreMove s (reqAlloc size zero s).2 := by
  rw [reqAlloc_frame]
  exact coreMove_of_request (reqAlloc_wf size zero) fun h => reqAlloc_fits zero h.mem hs

theorem reqGrow_move {h size : Nat} (zero : Bool) {s : State} (hs : size < 2 ^ s.sizeW)
    (hg : growable s.mem h size = true) : CoreMove s (reqGrow h size zero s).2 := by
  rw [reqGrow_frame]
  exact coreMove_of_request (fun hm => reqGrow_wf zero hm hg) fun hf => reqGrow_fits zero hf.mem hs

theorem reqRelease_move (h : Nat) (s : State) : CoreMove s (reqRelease h s) :=
  coreMove_of_request (as := s.answers) (n := s.freeNext) (reqRelease_wf h) fun hf => regionDrop_fits h hf.mem

theorem reqTable_move (s : State) : CoreMove s (reqTable s).2 := by
  rw [reqTable_frame]
  exact coreMove_of_request id fun h => h.mem

/-- A handle that `ALLOC` grants fits its register. -/
theorem reqAlloc_handle_lt {size : Nat} {zero : Bool} {s : State} {g : Nat} (h : (reqAlloc size zero s).1 = some g) :
    g < 2 ^ s.sizeW := by
  rcases reqAlloc_cases size zero s with ⟨hn, -⟩ | ⟨g', -, hg, hlt, -⟩
  · rw [hn] at h; cases h
  · rw [hg] at h; cases h; exact hlt

/-- A handle that `GROW` grants fits its register, the old one among them. -/
theorem reqGrow_handle_lt {h size : Nat} {zero : Bool} {s : State} {g : Nat} (hh : h < 2 ^ s.sizeW)
    (hr : (reqGrow h size zero s).1 = some g) : g < 2 ^ s.sizeW := by
  rcases reqGrow_cases h size zero s with ⟨hn, -⟩ | ⟨g', r, hg, -, rfl | hl, -⟩
  · rw [hn] at hr; cases hr
  · rw [hg] at hr; cases hr; exact hh
  · rw [hg] at hr; cases hr; exact hl.1

/-! ### The output buffer controller -/

/-- The controller's registers for a region whose handle, capacity and increment fit. -/
theorem obRegisters_fits {n h cap inc : Nat} (zero : Bool) {w : Work} (hw : ∀ v ∈ workWords w, v < n)
    (hh : h < n) (hc : cap < n) (hi : inc < n) : ∀ v ∈ workWords (obRegisters h cap inc zero w), v < n := by
  obtain ⟨h1, h2, h3, h4, h5, -, -, -, -⟩ := (workWords_lt_iff _ _).1 hw
  exact (workWords_lt_iff _ _).2 ⟨h1, h2, h3, h4, h5, hh, hc, Nat.zero_lt_of_lt hh, hi⟩

/-- The registers a failed `OB.ALLOC` leaves unspecified fit. -/
theorem obForget_fits {n k : Nat} {w : Work} (hw : ∀ v ∈ workWords w, v < 2 ^ n) :
    ∀ v ∈ workWords (obForget n k w), v < 2 ^ n := by
  obtain ⟨h1, h2, h3, h4, h5, -, -, -, h9⟩ := (workWords_lt_iff _ _).1 hw
  exact (workWords_lt_iff _ _).2 ⟨h1, h2, h3, h4, h5, WReg.unspecifiedWord_fits _ _, WReg.unspecifiedWord_fits _ _,
    WReg.unspecifiedWord_fits _ _, h9⟩

theorem obAlloc_move {size inc : Nat} (zero : Bool) {s : State} (hs : size < 2 ^ s.sizeW) (hi : inc < 2 ^ s.sizeW) :
    CoreMove s (obAlloc size inc zero s).2 := by
  have hm := reqAlloc_move zero hs
  unfold obAlloc
  split
  · exact (hm.withWork fun hf => hm.sizeW ▸ obForget_fits (hm.fits hf).work).useFree 3
  · rename_i g hg
    exact hm.withWork fun hf => obRegisters_fits zero (hm.work_lt hf) (reqAlloc_handle_lt hg) hs hi

theorem obAdopt_move {h cap inc : Nat} (zero : Bool) {s : State} (hh : Fits s → h < 2 ^ s.sizeW)
    (hc : Fits s → cap < 2 ^ s.sizeW) (hi : inc < 2 ^ s.sizeW) : CoreMove s (obAdopt h cap inc zero s) :=
  (CoreMove.refl s).withWork fun hf => obRegisters_fits zero hf.work (hh hf) (hc hf) hi

theorem obGrow_move {s t : State} {r : Ob} (h : obGrow s = .ok (r, t)) : CoreMove s t := by
  obtain ⟨size, hf, hg, ⟨-, -, rfl⟩ | ⟨g, -, hr, rfl⟩⟩ := obGrow_ok h
  · exact reqGrow_move _ (fit_lt hf) hg
  · have hm := reqGrow_move (obZeroFlag s) (fit_lt hf) hg
    refine hm.withWork fun hfs => ?_
    obtain ⟨h1, h2, h3, h4, h5, -, -, h8, h9⟩ := (workWords_lt_iff _ _).1 (hm.work_lt hfs)
    obtain ⟨-, -, -, -, -, hptr, -, -, -⟩ := (workWords_lt_iff _ _).1 hfs.work
    exact (workWords_lt_iff _ _).2 ⟨h1, h2, h3, h4, h5, reqGrow_handle_lt hptr hr, fit_lt hf, h8, h9⟩

theorem obEnsure_move {idx : Nat} {s t : State} {r : Ob} (h : obEnsure idx s = .ok (r, t)) : CoreMove s t := by
  obtain ⟨-, -, rfl⟩ | ⟨-, hg⟩ := obEnsure_ok h
  · exact .refl _
  · exact obGrow_move hg

theorem obRelease_move {s t : State} (h : obRelease s = .ok t) : CoreMove s t := by
  obtain ⟨_, -, h⟩ := ok_of_bind h
  split at h
  · cases h
    have hm := reqRelease_move s.work.obPtr.value s
    refine hm.withWork fun hf => ?_
    obtain ⟨h1, h2, h3, h4, h5, -, -, -, h9⟩ := (workWords_lt_iff _ _).1 (hm.work_lt hf)
    have h0 := Nat.two_pow_pos s.sizeW
    exact (workWords_lt_iff _ _).2 ⟨h1, h2, h3, h4, h5, h0, h0, h0, h9⟩
  · cases h

theorem outWrite_move {s t : State} {i : Nat} {b : Byte} (h : outWrite s i b = .ok t) : CoreMove s t := by
  obtain ⟨m, hw, rfl⟩ := outWrite_ok h
  exact { wf := fun hm => writeByte_wf hm hw
          fits := fun hf => ⟨hf.width, hf.host, hf.work, writeByte_fits hf.mem hw⟩ }

/-! ### The table -/

theorem dtBuild_move (s : State) : CoreMove s (dtBuild s).2 := by
  have hm := reqTable_move s
  unfold dtBuild
  split
  · exact .refl s
  · split
    · exact hm.trans { wf := id, fits := fun hf => ⟨hf.width, hf.host, hf.work, hf.mem⟩ }
    · exact hm

/-! ### The encoder -/

theorem encAlloc_move {s t : State} (h : encAlloc s = .ok t) : CoreMove s t := by
  obtain ⟨size, hs, h⟩ := ok_of_bind h
  obtain ⟨inc, hi, h⟩ := ok_of_bind h
  have hm := obAlloc_move true (fit_lt hs) (fit_lt hi)
  simp only at h
  split at h
  · cases h
    exact hm.ended_null .ok
  · cases h
    refine (hm.withWork fun hf => ?_).withPhase .encFetch
    obtain ⟨-, -, h3, h4, h5, h6, h7, h8, h9⟩ := (workWords_lt_iff _ _).1 (hm.work_lt hf)
    have h0 := Nat.two_pow_pos s.sizeW
    exact (workWords_lt_iff _ _).2 ⟨h0, h0, h3, h4, h5, h6, h7, h8, h9⟩

theorem encFetch_move {s t : State} (h : encFetch s = .ok t) : CoreMove s t := by
  obtain ⟨_, -, h⟩ := ok_of_bind h
  simp only at h
  split at h
  · cases h
    exact (CoreMove.refl s).withPhase .encPad
  · obtain ⟨b, -, h⟩ := ok_of_bind h
    obtain ⟨e, -, h⟩ := ok_of_bind h
    obtain ⟨i', hi, h⟩ := ok_of_bind h
    cases h
    refine ((CoreMove.refl s).withWork fun hf => ?_).withPhase .encPack
    obtain ⟨-, hrest⟩ := (workWords_lt_iff _ _).1 hf.work
    exact (workWords_lt_iff _ _).2 ⟨fit_lt hi, hrest⟩

theorem encUnwind_move {s t : State} (h : encUnwind s = .ok t) : CoreMove s t := by
  obtain ⟨s1, hr, h⟩ := ok_of_bind h
  cases h
  exact (obRelease_move hr).ended_null .ok

theorem encPackByte_move {idx : Nat} {s t : State} (h : encPackByte idx s = .ok t) : CoreMove s t := by
  obtain ⟨_, -, h⟩ := ok_of_bind h
  obtain ⟨old, -, h⟩ := ok_of_bind h
  obtain ⟨s1, hw, h⟩ := ok_of_bind h
  obtain ⟨pos', hp, h⟩ := ok_of_bind h
  obtain ⟨len', hl, h⟩ := ok_of_bind h
  cases h
  have hm := outWrite_move hw
  refine (hm.withWork fun hf => ?_).withPhase _
  obtain ⟨h1, -, h3, h4, h5, h6, h7, -, h9⟩ := (workWords_lt_iff _ _).1 (hm.work_lt hf)
  exact (workWords_lt_iff _ _).2 ⟨h1, fit_lt hp, h3, h4, h5, h6, h7, fit_lt hl, h9⟩

theorem encPack_move {s t : State} (h : encPack s = .ok t) : CoreMove s t := by
  obtain ⟨_, -, h⟩ := ok_of_bind h
  obtain ⟨⟨r, s1⟩, he, h⟩ := ok_of_bind h
  have hm := obEnsure_move he
  cases r with
  | fail => exact hm.trans (encUnwind_move h)
  | done => exact hm.trans (encPackByte_move h)

theorem encPad_move {s t : State} (h : encPad s = .ok t) : CoreMove s t := by
  obtain ⟨_, -, h⟩ := ok_of_bind h
  obtain ⟨len, hl, h⟩ := ok_of_bind h
  have hres : Fits s → s.work.obPtr.value < 2 ^ s.sizeW ∧ len < 2 ^ s.sizeW ∧ s.work.obCap.value < 2 ^ s.sizeW := by
    intro hf
    obtain ⟨-, -, -, -, -, hptr, hcap, -, -⟩ := (workWords_lt_iff _ _).1 hf.work
    exact ⟨hptr, fit_lt hl, hcap⟩
  split at h
  · cases h
    exact (CoreMove.refl s).ended .ok hres
  · obtain ⟨old, -, h⟩ := ok_of_bind h
    obtain ⟨s1, hw, h⟩ := ok_of_bind h
    cases h
    exact (outWrite_move hw).ended .ok hres

/-! ### The decoder -/

theorem decInit_move (s : State) : CoreMove s (decInit s) := by
  have hm := dtBuild_move s
  unfold decInit
  split
  · exact hm.withPhase .decStart
  · refine hm.ended .initializationFailed fun hf => ?_
    obtain ⟨-, -, hop, hoc, -⟩ := (hostWords_lt_iff s _).1 hf.host
    refine ⟨hop, Nat.two_pow_pos _, ?_⟩
    split
    · exact Nat.two_pow_pos _
    · exact hoc

theorem decCounters_move {s t : State} (h : decCounters s = .ok t) : CoreMove s t := by
  obtain ⟨total, ht, h⟩ := ok_of_bind h
  cases h
  refine ((CoreMove.refl s).withWork fun hf => ?_).withPhase _
  obtain ⟨h1, h2, -, -, -, hrest⟩ := (workWords_lt_iff _ _).1 hf.work
  have h0 := Nat.two_pow_pos s.sizeW
  exact (workWords_lt_iff _ _).2 ⟨h1, h2, h0, fit_lt ht, h0, hrest⟩

theorem decStart_move {s t : State} (h : decStart s = .ok t) : CoreMove s t := by
  obtain ⟨inc, hi, h⟩ := ok_of_bind h
  split at h
  · obtain ⟨size, hs, h⟩ := ok_of_bind h
    have hm := obAlloc_move false (fit_lt hs) (fit_lt hi)
    simp only at h
    split at h
    · cases h
      exact hm.ended_null .outOfMemory
    · exact hm.trans (decCounters_move h)
  · refine (obAdopt_move false (fun hf => ?_) (fun hf => ?_) (fit_lt hi)).trans (decCounters_move h)
    · exact hf.host _ (by simp [hostWords])
    · exact hf.host _ (by simp [hostWords])

/-- The result words of an error end of the decoder: the region, the bytes decoded, the capacity (R222, R223). -/
theorem decResult_lt {s : State} (hf : Fits s) : s.work.obPtr.value < 2 ^ s.sizeW ∧ s.work.outPos.value < 2 ^ s.sizeW ∧
    s.work.obCap.value < 2 ^ s.sizeW := by
  obtain ⟨-, -, -, -, hpos, hptr, hcap, -, -⟩ := (workWords_lt_iff _ _).1 hf.work
  exact ⟨hptr, hpos, hcap⟩

/-- `SCAN_K` is no word of `SIZE_W` bits (R27). -/
theorem scanK_move (s : State) (k : WReg (BitVec 9)) : CoreMove s (s.withWork { s.work with scanK := k }) where
  wf := id
  fits hf := ⟨hf.width, hf.host, hf.work, hf.mem⟩

theorem decScan_move {s t : State} (h : decScan s = .ok t) : CoreMove s t := by
  obtain ⟨_, -, h⟩ := ok_of_bind h
  have hm := (scanK_move s (.wr (BitVec.ofNat 9 (scanIndex (scanResult s))))).withRet (.scan (scanResult s))
  simp only at h
  split at h
  · cases h
    exact hm.withPhase .emit
  · obtain ⟨_, -, h⟩ := ok_of_bind h
    cases h
    exact hm.ended .internal decResult_lt
  · cases h
    exact hm.withPhase .term

theorem decNoMemory_move {s t : State} (h : decNoMemory s = .ok t) : CoreMove s t := by
  obtain ⟨_, -, h⟩ := ok_of_bind h
  cases h
  exact (CoreMove.refl s).ended .outOfMemory decResult_lt

theorem decEmitByte_move {e : CodeEntry} {s t : State} (h : decEmitByte e s = .ok t) : CoreMove s t := by
  obtain ⟨_, -, h⟩ := ok_of_bind h
  obtain ⟨s1, hw, h⟩ := ok_of_bind h
  obtain ⟨pos', hp, h⟩ := ok_of_bind h
  obtain ⟨done', hd, h⟩ := ok_of_bind h
  cases h
  have hm := outWrite_move hw
  refine (hm.withWork fun hf => ?_).withPhase _
  obtain ⟨h1, h2, -, h4, -, h6, h7, -, h9⟩ := (workWords_lt_iff _ _).1 (hm.work_lt hf)
  exact (workWords_lt_iff _ _).2 ⟨h1, h2, fit_lt hd, h4, fit_lt hp, h6, h7, fit_lt hp, h9⟩

theorem decEmit_move {k : Nat} {s t : State} (h : decEmit k s = .ok t) : CoreMove s t := by
  obtain ⟨e, -, h⟩ := ok_of_bind h
  split at h
  · cases h
  · obtain ⟨_, -, h⟩ := ok_of_bind h
    obtain ⟨⟨r, s1⟩, he, h⟩ := ok_of_bind h
    have hm := obEnsure_move he
    cases r with
    | fail => exact hm.trans (decNoMemory_move h)
    | done => exact hm.trans (decEmitByte_move h)

theorem decTermByte_move {s t : State} (h : decTermByte s = .ok t) : CoreMove s t := by
  obtain ⟨_, -, h⟩ := ok_of_bind h
  obtain ⟨s1, hw, h⟩ := ok_of_bind h
  cases h
  exact (outWrite_move hw).ended .ok decResult_lt

theorem decTerm_move {s t : State} (h : decTerm s = .ok t) : CoreMove s t := by
  obtain ⟨_, -, h⟩ := ok_of_bind h
  obtain ⟨⟨r, s1⟩, he, h⟩ := ok_of_bind h
  have hm := obEnsure_move he
  cases r with
  | fail => exact hm.trans (decNoMemory_move h)
  | done => exact hm.trans (decTermByte_move h)

theorem codePass_move {sym : Nat} {s t : State} (h : codePass sym s = .ok t) : CoreMove s t := by
  unfold codePass at h
  split at h
  · split at h
    · cases h
    · rename_i k _
      have hm := scanK_move s (.wr (BitVec.ofNat 9 k))
      simp only at h
      split at h
      · cases h
        exact hm.withPhase .term
      · exact hm.trans (decEmit_move h)
  · cases h

/-! ### The commands -/

theorem prewarmBuild_move (s : State) : CoreMove s (prewarmBuild s) := by
  unfold prewarmBuild
  split
  · exact (dtBuild_move s).ended_null .ok
  · exact (dtBuild_move s).ended_null .outOfMemory

theorem emitFound_move {s t : State} (h : emitFound s = .ok t) : CoreMove s t := by
  obtain ⟨_, -, h⟩ := ok_of_bind h
  exact decEmit_move h

/-- Every step of CORE is a move, whatever PHASE names (R37, R38). -/
theorem coreStep_move {s t : State} (h : coreStep s = .ok t) : CoreMove s t := by
  unfold coreStep at h
  split at h
  case h_1 => cases h
  case h_2 => cases h; exact prewarmBuild_move s
  case h_3 => exact encAlloc_move h
  case h_4 => exact encFetch_move h
  case h_5 => exact encPack_move h
  case h_6 => exact encPad_move h
  case h_7 => cases h; exact decInit_move s
  case h_8 => exact decStart_move h
  case h_9 => exact decScan_move h
  case h_10 => exact emitFound_move h
  case h_11 => exact decTerm_move h

theorem accept_move (c : Command) (s : State) : CoreMove s (accept c s) := by
  cases c with
  | prewarm =>
    simp only [accept]
    split
    · exact (coreMove_beginCommand .idle s).ended_null .ok
    · exact coreMove_beginCommand .build s
  | encode =>
    simp only [accept]
    split
    · exact (coreMove_beginCommand .idle s).ended_null .ok
    · exact coreMove_beginCommand .encAlloc s
  | decode => exact coreMove_beginCommand .decInit s

theorem untilIdle_move {n : Nat} {s t : State} (h : untilIdle n s = .ok t) : CoreMove s t := by
  induction n generalizing s with
  | zero =>
    unfold untilIdle at h
    split at h
    · cases h
    · cases h; exact .refl _
  | succ n ih =>
    unfold untilIdle at h
    split at h
    · split at h
      · rename_i s1 hs; exact (coreStep_move hs).trans (ih h)
      · cases h
    · cases h; exact .refl _

/-- All that a command as one transition is, where it answers a state (R6 (a)). -/
theorem runCommand_next {c : Command} {s t : State} (h : runCommand c s = .next t) :
    admission c s = none ∧ untilIdle (stepBound s) (accept c s) = .ok t := by
  unfold runCommand at h
  split at h
  · cases h
  · exact ⟨‹_›, ofRun_next h⟩

theorem runCommand_move {c : Command} {s t : State} (h : runCommand c s = .next t) : CoreMove s t :=
  (accept_move c s).trans (untilIdle_move (runCommand_next h).2)

/-! ### The meanings of the rows -/

/-- An operation that answers a state only under a condition. -/
theorem next_of_guard {c : Prop} [Decidable c] {u t : State} {r : Refusal}
    (h : (if c then Host.Outcome.next u else .refused r : Host.Outcome State Fault Refusal) = .next t) : c ∧ t = u := by
  split at h
  · cases h; exact ⟨‹c›, rfl⟩
  · cases h

theorem ofOb_move {s t : State} {x : Except Fault (Ob × State)} (hx : ∀ r u, x = .ok (r, u) → CoreMove s u)
    (h : ofOb x = .next t) : CoreMove s t := by
  unfold ofOb at h
  split at h
  · cases h; exact (hx _ _ rfl).withRet _
  · cases h

/-- The two ends of a command, given with words that fit (R256, R257). -/
theorem kind_move {k : Kind} {ptr len cap : Nat} {s t : State}
    (h : (if wordsFit s [ptr, len, cap] then Host.Outcome.next (endCommand k ptr len cap s) else .refused .tooWide :
      Host.Outcome State Fault Refusal) = .next t) : CoreMove s t := by
  obtain ⟨hw, rfl⟩ := next_of_guard h
  exact (CoreMove.refl s).ended k fun _ =>
    ⟨lt_of_wordsFit hw (by simp), lt_of_wordsFit hw (by simp), lt_of_wordsFit hw (by simp)⟩

theorem execAreqAlloc_move {size : Nat} {zero : Bool} {s t : State} (h : execAreqAlloc size zero s = .next t) :
    CoreMove s t := by
  obtain ⟨hw, rfl⟩ := next_of_guard h
  exact (reqAlloc_move zero (lt_of_wordsFit hw (by simp))).withRet _

theorem execAreqGrow_move {handle size : Nat} {zero : Bool} {s t : State} (h : execAreqGrow handle size zero s = .next t) :
    CoreMove s t := by
  unfold execAreqGrow at h
  split at h
  · split at h
    · rename_i hg
      obtain ⟨hw, rfl⟩ := next_of_guard h
      exact (reqGrow_move zero (lt_of_wordsFit hw (by simp)) hg).withRet _
    · cases h
  · cases h

theorem execAreqRelease_move {handle : Nat} {s t : State} (h : execAreqRelease handle s = .next t) : CoreMove s t := by
  obtain ⟨-, rfl⟩ := next_of_guard h
  exact (reqRelease_move handle s).withRet _

theorem execRomLookup_move {sym : BitVec 9} {s t : State} (h : execRomLookup sym s = .next t) : CoreMove s t := by
  unfold execRomLookup at h
  split at h
  · cases h; exact (CoreMove.refl s).withRet _
  · cases h

theorem execObAlloc_move {size inc : Nat} {zero : Bool} {s t : State} (h : execObAlloc size inc zero s = .next t) :
    CoreMove s t := by
  obtain ⟨hw, rfl⟩ := next_of_guard h
  exact (obAlloc_move zero (lt_of_wordsFit hw (by simp)) (lt_of_wordsFit hw (by simp))).withRet _

theorem execObAdopt_move {handle cap inc : Nat} {zero : Bool} {s t : State}
    (h : execObAdopt handle cap inc zero s = .next t) : CoreMove s t := by
  obtain ⟨hw, rfl⟩ := next_of_guard h
  exact (obAdopt_move zero (fun _ => lt_of_wordsFit hw (by simp)) (fun _ => lt_of_wordsFit hw (by simp))
    (lt_of_wordsFit hw (by simp))).withRet _

theorem execObRelease_move {s t : State} (h : execObRelease s = .next t) : CoreMove s t := by
  unfold execObRelease at h
  split at h
  · rename_i u hu; cases h; exact (obRelease_move hu).withRet _
  · cases h

theorem execDecWindow_move {len : BitVec 6} {s t : State} (h : execDecWindow len s = .next t) : CoreMove s t := by
  unfold execDecWindow at h
  split at h
  · cases h
  · split at h
    · cases h
    · split at h
      · cases h; exact (CoreMove.refl s).withRet _
      · cases h

/-- Every row of the table is a move where it answers a state. -/
theorem exec_move {i : Instr} {s t : State} (h : exec i s = .next t) : CoreMove s t := by
  cases hsym : i.symbol? with
  | some n =>
    rw [exec_of_symbol hsym] at h
    exact codePass_move (ofRun_next h)
  | none =>
    cases i with
    | prewarm => exact runCommand_move h
    | encode => exact runCommand_move h
    | decode => exact runCommand_move h
    | areqAlloc size zero => exact execAreqAlloc_move h
    | areqGrow handle size zero => exact execAreqGrow_move h
    | areqRelease handle => exact execAreqRelease_move h
    | areqAllocTable => cases h; exact (reqTable_move s).withRet _
    | kindOk ptr len cap => exact kind_move h
    | kindOutOfMemory ptr len cap => exact kind_move h
    | kindInitializationFailed ptr len cap => exact kind_move h
    | kindInternal ptr len cap => exact kind_move h
    | romLookup sym => exact execRomLookup_move h
    | dtBuild => cases h; exact (dtBuild_move s).withRet _
    | obAlloc size inc zero => exact execObAlloc_move h
    | obAdopt handle cap inc zero => exact execObAdopt_move h
    | obEnsure idx => exact ofOb_move (fun _ _ => obEnsure_move) h
    | obGrow => exact ofOb_move (fun _ _ => obGrow_move) h
    | obRelease => exact execObRelease_move h
    | encAlloc => exact encAlloc_move (ofRun_next h)
    | encFetch => exact encFetch_move (ofRun_next h)
    | encPack => exact encPack_move (ofRun_next h)
    | encPad => exact encPad_move (ofRun_next h)
    | decInit => cases h; exact decInit_move s
    | decStart => exact decStart_move (ofRun_next h)
    | decScan => exact decScan_move (ofRun_next h)
    | decWindow len => exact execDecWindow_move h
    | decEmit k => exact decEmit_move (ofRun_next h)
    | decTerm => exact decTerm_move (ofRun_next h)
    | _ => cases hsym

/-! ### The step of CORE through the dispatch of instructions (R37, R38) -/

/-- `complete` and `raise` with no region pass the check of their result words. -/
theorem wordsFit_null (s : State) : wordsFit s [nullHandle, 0, 0] = true :=
  (wordsFit_iff s _).2 (by simp [nullHandle])

/-- The step of PHASE `BUILD`: the build, then `complete` or `raise OutOfMemory` (R142, R144). -/
theorem prewarmEnd_dtBuild (s : State) : prewarmEnd (exec .dtBuild s) = .next (prewarmBuild s) := by
  have hexec : exec .dtBuild s = .next ((dtBuild s).2.withRet (.ob (dtBuild s).1)) := rfl
  rw [hexec]
  unfold prewarmBuild
  cases hr : (dtBuild s).1 with
  | done => exact if_pos (wordsFit_null _)
  | fail => exact if_pos (wordsFit_null _)

/-- The dispatch runs the step of the sequencer, in every PHASE. -/
theorem stepCore_eq_coreStep (s : State) : stepCore s = ofRun (coreStep s) := by
  unfold stepCore coreInstr coreStep
  cases hp : s.phase with
  | build => simpa using prewarmEnd_dtBuild s
  | emit =>
    unfold emitFound
    cases hn : needs s [.scanK] with
    | ok u => rfl
    | error f => rfl
  | _ => rfl

theorem stepCore_move {s t : State} (h : stepCore s = .next t) : CoreMove s t :=
  coreStep_move (ofRun_next (stepCore_eq_coreStep s ▸ h))

/-! ### HOST -/

/-- Nothing but the actions to come changes. -/
theorem keeps_agenda (s : State) (rest : List Action) : Keeps s { s with agenda := rest } :=
  ⟨id, fun h => ⟨h.width, h.host, h.work, h.mem⟩⟩

theorem keeps_withHostData (s : State) (v : Nat) : Keeps s (s.withHostData v) :=
  ⟨id, fun h => ⟨h.width, h.host, h.work, h.mem⟩⟩

/-- All that a completed write of `CMD` is: the acceptance of a command that is admitted (R40). -/
theorem hostCommand_next {w : Nat} {s t : State} (h : hostCommand w s = .next t) :
    ∃ i c, decodeCmd w = .ok i ∧ commandOf i = some c ∧ admission c s = none ∧ t = accept c s := by
  unfold hostCommand at h
  split at h
  · cases h
  · rename_i i hi
    split at h
    · cases h
    · rename_i c hc
      split at h
      · cases h
      · rename_i ha; cases h; exact ⟨i, c, hi, hc, ha, rfl⟩

/-- All that a completed write of an operand register is (R8, R301). -/
theorem hostOperand_next {v : Nat} {s t u : State} (h : hostOperand v u s = .next t) :
    s.busy = false ∧ v < 2 ^ s.sizeW ∧ t = u := by
  unfold hostOperand at h
  split at h
  · cases h
  · obtain ⟨hw, rfl⟩ := next_of_guard h
    exact ⟨by simpa using ‹¬s.busy = true›, lt_of_wordsFit hw (by simp), rfl⟩

theorem hostOperand_keeps {v : Nat} {s t u : State} (h : hostOperand v u s = .next t) (hwork : u.work = s.work)
    (hsize : u.sizeW = s.sizeW) (hmem : u.mem = s.mem)
    (hhost : v < 2 ^ s.sizeW → Fits s → ∀ x ∈ hostWords u, x < 2 ^ s.sizeW) : Keeps s t := by
  obtain ⟨-, hv, rfl⟩ := hostOperand_next h
  refine ⟨fun hm => hmem ▸ hm, fun hf => ⟨hsize ▸ hf.width, hsize ▸ hhost hv hf, ?_, ?_⟩⟩
  · rw [hwork, hsize]; exact hf.work
  · rw [hmem, hsize]; exact hf.mem

theorem hostWrite_keeps {n v : Nat} {s t : State} (h : hostWrite n v s = .next t) : Keeps s t := by
  unfold hostWrite at h
  split at h
  case h_1 =>
    obtain ⟨i, c, -, -, -, rfl⟩ := hostCommand_next h
    exact (accept_move c s).toKeeps
  case h_6 => split at h <;> cases h
  all_goals
    refine hostOperand_keeps h rfl rfl rfl fun hv hf => (hostWords_lt_iff _ _).2 ?_
    obtain ⟨h2, h3, h4, h5, h7, h8, h9⟩ := (hostWords_lt_iff s _).1 hf.host
  · exact ⟨hv, h3, h4, h5, h7, h8, h9⟩
  · exact ⟨h2, hv, h4, h5, h7, h8, h9⟩
  · exact ⟨h2, h3, hv, h5, h7, h8, h9⟩
  · exact ⟨h2, h3, h4, hv, h7, h8, h9⟩

theorem readResult_keeps (v : Nat) (s : State) : Keeps s (readResult v s) := by
  unfold readResult
  split
  · exact (keeps_withHostData s _).trans ((CoreMove.refl _).useFree 1).toKeeps
  · exact keeps_withHostData s v

theorem hostRead_keeps {n : Nat} {s t : State} (h : hostRead n s = .next t) : Keeps s t := by
  unfold hostRead at h
  split at h
  case h_11 => cases h
  all_goals cases h
  case h_7 | h_8 | h_9 | h_10 => exact readResult_keeps _ s
  all_goals exact keeps_withHostData s _

theorem hostPoke_keeps {h off : Nat} {b : Byte} {s t : State} (hp : hostPoke h off b s = .next t) : Keeps s t := by
  unfold hostPoke at hp
  split at hp
  · cases hp
  · split at hp
    · rename_i m hm
      cases hp
      exact ⟨fun hw => writeByte_wf hw hm, fun hf => ⟨hf.width, hf.host, hf.work, writeByte_fits hf.mem hm⟩⟩
    · cases hp

theorem hostPeek_keeps {h off : Nat} {s t : State} (hp : hostPeek h off s = .next t) : Keeps s t := by
  unfold hostPeek at hp
  split at hp
  · cases hp
  · split at hp
    · cases hp; exact keeps_withHostData s _
    · cases hp

theorem hostProvide_keeps {h cap : Nat} {s t : State} (hp : hostProvide h cap s = .next t) : Keeps s t := by
  unfold hostProvide at hp
  split at hp
  · cases hp
  · rename_i hfree
    split at hp
    · cases hp
    · rename_i hw
      cases hp
      have hnull : h ≠ nullHandle := fun e => hfree (by simp [e])
      have hfit : wordsFit s [h, cap] = true := by simpa using hw
      exact ⟨fun hm => regionPut_wf hm ⟨hnull, .nil, by simp⟩, fun hf => ⟨hf.width, hf.host, hf.work,
        regionPut_fits hf.mem ⟨lt_of_wordsFit hfit (by simp), lt_of_wordsFit hfit (by simp)⟩⟩⟩

theorem hostRequest_keeps {op : BitVec 3} {args : List Nat} {s t : State} (h : hostRequest op args s = .next t) :
    Keeps s t := by
  unfold hostRequest at h
  split at h
  · cases h
  · split at h
    · cases h
    · exact (exec_move h).toKeeps

theorem hostReset_keeps {s t : State} (h : hostReset s = .next t) : Keeps s t := by
  unfold hostReset at h
  split at h
  · cases h
  · cases h
    exact ⟨id, fun hf => ⟨hf.width, by simp [hostWords, State.reset],
      by simp [workWords, State.reset, Work.atReset, WReg.atReset], hf.mem⟩⟩

/-! ### The step -/

/-- A step takes the first action off the agenda, unless HOST polls. -/
theorem step_action {a : Action} (ha : a ≠ .poll) (s : State) (rest : List Action) :
    step { s with agenda := a :: rest } = runAction a { s with agenda := rest } := by
  cases a with
  | poll => exact absurd rfl ha
  | _ => rfl

/-- While a command is in progress and HOST waits or polls, CORE moves (R262). -/
theorem step_core {s : State} (hb : s.busy = true) (ha : s.agenda = [] ∨ s.agenda.head? = some .poll) :
    step s = stepCore s := by
  unfold step stepAgenda
  split
  · exact if_pos hb
  · exact if_pos hb
  · rename_i a rest hpoll hag
    exact (hpoll (by simpa [hag] using ha)).elim

/-- All that a step is: nothing while engine and HOST are idle, a step of CORE, or the first action of the agenda. -/
theorem step_cases (s : State) : (s.busy = false ∧ step s = .next s) ∨ step s = stepCore s ∨
    ∃ a rest, s.agenda = a :: rest ∧ step s = runAction a { s with agenda := rest } := by
  cases hag : s.agenda with
  | nil =>
    cases hb : s.busy with
    | true => exact .inr (.inl (step_core hb (.inl hag)))
    | false => exact .inl ⟨rfl, by simp [step, stepAgenda, hag, hb]⟩
  | cons a rest =>
    by_cases ha : a = .poll
    · subst ha
      cases hb : s.busy with
      | true => exact .inr (.inl (step_core hb (.inr (by rw [hag]; rfl))))
      | false => exact .inr (.inr ⟨_, rest, rfl, by simp [step, stepAgenda, hag, hb]⟩)
    · refine .inr (.inr ⟨a, rest, rfl, ?_⟩)
      rw [← step_action ha s rest, ← hag]

theorem runAction_keeps {a : Action} {s t : State} (h : runAction a s = .next t) : Keeps s t := by
  cases a with
  | write n v => exact hostWrite_keeps h
  | read n => exact hostRead_keeps h
  | poll => cases h; exact keeps_withHostData s _
  | call w =>
    simp only [runAction] at h
    split at h
    · cases h
    · exact (exec_move h).toKeeps
  | request op args => exact hostRequest_keeps h
  | provide h' cap => exact hostProvide_keeps h
  | poke h' off b => exact hostPoke_keeps h
  | peek h' off => exact hostPeek_keeps h
  | reset => exact hostReset_keeps h
  | core =>
    simp only [runAction] at h
    split at h
    · exact (stepCore_move h).toKeeps
    · cases h
  | code =>
    simp only [runAction, stepCode] at h
    split at h
    · split at h
      · cases h
      · exact (exec_move h).toKeeps
    · cases h
  | micro i =>
    simp only [runAction] at h
    split at h
    · cases h
    · split at h
      · exact (exec_move h).toKeeps
      · cases h
  | finish code ptr len cap =>
    simp only [runAction] at h
    split at h
    · exact (exec_move h).toKeeps
    · cases h

/-- Every step keeps the regions canonical and every word within its width. -/
theorem step_keeps {s t : State} (h : step s = .next t) : Keeps s t := by
  obtain ⟨-, hs⟩ | hs | ⟨a, rest, -, hs⟩ := step_cases s
  · rw [hs] at h; cases h; exact .refl s
  · exact (stepCore_move (hs ▸ h)).toKeeps
  · exact (keeps_agenda s rest).trans (runAction_keeps (hs ▸ h))

/-! ### The two levels of R6 -/

/-- A command word names a command, and its meaning is that command as one transition (R6 (a), R91). -/
theorem command_of_decodeCmd {w : Nat} {i : Instr} (h : decodeCmd w = .ok i) :
    ∃ c, commandOf i = some c ∧ exec i = runCommand c := by
  unfold decodeCmd at h
  split at h
  · cases h
  · split at h
    · cases h; exact ⟨.prewarm, rfl, rfl⟩
    · cases h; exact ⟨.encode, rfl, rfl⟩
    · cases h; exact ⟨.decode, rfl, rfl⟩
    · cases h

/-- A write of the word of an admitted command accepts it (R40). -/
theorem hostWrite_command {w : Nat} {i : Instr} {c : Command} {s : State} (hd : decodeCmd w = .ok i)
    (hc : commandOf i = some c) (ha : admission c s = none) : hostWrite 0 w s = .next (accept c s) := by
  simp [hostWrite, hostCommand, hd, hc, ha]

/-- One step, then the rest of the run. -/
theorem run_of_step {s u t : State} {k : Nat} (hs : step s = .next u) (hk : Host.Core.run Sys2Proof.core k u = .next t) :
    Host.Core.run Sys2Proof.core (k + 1) s = .next t := by
  have hs' : Sys2Proof.core.step s = .next u := hs
  simpa only [Host.Core.run, hs'] using hk

/-- The steps of CORE until the command has ended are steps of the machine while HOST has nothing to do. -/
theorem run_of_untilIdle {n : Nat} {s t : State} (ha : s.agenda = []) (h : untilIdle n s = .ok t) :
    ∃ k, Host.Core.run Sys2Proof.core k s = .next t := by
  induction n generalizing s with
  | zero =>
    unfold untilIdle at h
    split at h
    · cases h
    · cases h; exact ⟨0, rfl⟩
  | succ n ih =>
    unfold untilIdle at h
    split at h
    · rename_i hb
      split at h
      · rename_i u hu
        obtain ⟨k, hk⟩ := ih ((coreStep_move hu).agenda.trans ha) h
        refine ⟨k + 1, run_of_step ?_ hk⟩
        rw [step_core hb (.inl ha), stepCore_eq_coreStep, hu, ofRun_ok]
      · cases h
    · cases h; exact ⟨0, rfl⟩

/-! ### The dispatch of a step -/

/-- HOST's call of a word runs the instruction it decodes to (R6 (a), R91). -/
theorem runAction_call {w : Nat} {i : Instr} (hd : decode (.cmd w) = .ok i) (s : State) :
    runAction (.call w) s = exec i s := by
  have hd' : decodeCmd w = .ok i := hd
  simp [runAction, hd']

/-- HOST's request runs the instruction it decodes to, and is refused while `BUSY` = 1 (R75, R97). -/
theorem runAction_request {op : BitVec 3} {args : List Nat} {i : Instr} (hd : decode (.areq op args) = .ok i) (s : State) :
    runAction (.request op args) s = if s.busy then .refused .requestWhileBusy else exec i s := by
  simp [runAction, hostRequest, hd]

/-- A command in progress ends with the kind its code names (R94, R256, R257). -/
theorem runAction_finish {code : BitVec 2} {ptr len cap : Nat} {i : Instr} {s : State} (hb : s.busy = true)
    (hd : decode (.kind code ptr len cap) = .ok i) : runAction (.finish code ptr len cap) s = exec i s := by
  have hi : decodeKind code ptr len cap = i := Except.ok.inj hd
  simp [runAction, hb, hi]

/-- A well-formed micro-operation given to a command in progress is run. -/
theorem runAction_micro {i : Instr} {s : State} (hb : s.busy = true) (hf : i.format = .micro) (hw : i.wellFormed = true) :
    runAction (.micro i) s = exec i s := by
  simp [runAction, hb, hf, hw]

/-- In `SCANNING` the code at the current bit offset is run (R210, R214). -/
theorem runAction_code {s : State} (hb : s.busy = true) (hp : s.phase = .scanning) (hr : scanReady s = .ok ()) :
    runAction .code s = exec (streamInstr s) s := by
  simp [runAction, stepCode, hb, hp, hr]

/-- CORE asked to move while a command is in progress takes its step (R6 (b), R38). -/
theorem runAction_core {s : State} (hb : s.busy = true) : runAction .core s = stepCore s := if_pos hb

/-- Outside PHASE `BUILD` a step of CORE is the instruction PHASE names (R37, R38). -/
theorem stepCore_of_coreInstr {s : State} {i : Instr} (hi : coreInstr s = .ok i) (hp : s.phase ≠ .build) :
    stepCore s = exec i s := by
  simp [stepCore, hi, hp]

/-- In PHASE `BUILD` it is `DT.BUILD`, then the end of `PREWARM` (R142). -/
theorem stepCore_build {s : State} (hp : s.phase = .build) : stepCore s = prewarmEnd (exec .dtBuild s) := by
  simp [stepCore, coreInstr, hp]

/-! ### HOST's writes -/

/-- No command is admitted while one is in progress (R300). -/
theorem admission_of_busy (c : Command) {s : State} (hb : s.busy = true) : ∃ r, admission c s = some r := by
  simp only [admission, hb, if_true]
  split <;> exact ⟨_, rfl⟩

/-- A write of `CMD` while a command is in progress is refused, whatever the word (R114, R300). -/
theorem hostWrite_command_busy (w : Nat) {s : State} (hb : s.busy = true) : ∃ r, hostWrite 0 w s = .refused r := by
  show ∃ r, hostCommand w s = .refused r
  unfold hostCommand
  split
  · exact ⟨_, rfl⟩
  · split
    · exact ⟨_, rfl⟩
    · rename_i c _
      obtain ⟨r, hr⟩ := admission_of_busy c hb
      exact ⟨r, by rw [hr]⟩

/-- While `BUSY` = 0 an operand register takes a word of `SIZE_W` bits (R8, R42 to R45). -/
theorem hostOperand_of_lt {v : Nat} {s : State} (hb : s.busy = false) (hv : v < 2 ^ s.sizeW) (t : State) :
    hostOperand v t s = .next t := by
  simp [hostOperand, hb, wordsFit, hv]

/-- A wider word is refused (R8; log entry 19). -/
theorem hostOperand_tooWide {v : Nat} {s : State} (hb : s.busy = false) (hv : 2 ^ s.sizeW ≤ v) (t : State) :
    hostOperand v t s = .refused .tooWide := by
  simp [hostOperand, hb, wordsFit, Nat.not_lt.2 hv]

/-- While `BUSY` = 1 every write of an operand register is refused (R301). -/
theorem hostOperand_busy (v : Nat) {s : State} (hb : s.busy = true) (t : State) :
    hostOperand v t s = .refused .operandWhileBusy := if_pos hb

/-- A write of an operand register, 2 to 5, is a write of an operand, whichever it is (R42 to R45). -/
theorem hostWrite_operand {n : Nat} (h2 : 2 ≤ n) (h5 : n ≤ 5) (v : Nat) (s : State) :
    ∃ t, hostWrite n v s = hostOperand v t s := by
  interval_cases n <;> exact ⟨_, rfl⟩

/-- A write of a register above 9 is refused (R50). -/
theorem hostWrite_noSuchRegister {n : Nat} (hn : 10 ≤ n) (v : Nat) (s : State) :
    hostWrite n v s = .refused (.noSuchRegister n) := by
  unfold hostWrite
  split
  case h_6 => exact if_neg (by omega)
  all_goals omega

/-- A write of `STATUS` or of a result register is refused (R41, R50). -/
theorem hostWrite_readOnlyRegister {n : Nat} (hn : n = 1 ∨ (6 ≤ n ∧ n ≤ 9)) (v : Nat) (s : State) :
    hostWrite n v s = .refused (.readOnlyRegister n) := by
  unfold hostWrite
  split
  case h_6 => exact if_pos (by omega)
  all_goals omega

end Sys2Proof.Machine

open Sys2Proof Sys2Proof.Machine

/-- Settles O16: every step keeps what `Keeps` says, operation by operation. -/
theorem stepKeepsMemoryCanonicalAndWordsInWidth : Obligations.StepKeepsMemoryCanonicalAndWordsInWidth :=
  ⟨fun _ _ hm h => (step_keeps h).wf hm, fun _ _ hf h => (step_keeps h).fits hf⟩

/-- Settles O22, by induction on the steps of the command (`run_of_untilIdle`) after the step that accepts it. -/
theorem commandIsTheCompositionOfItsSteps : Obligations.CommandIsTheCompositionOfItsSteps := by
  intro s t w i hag hd hex
  obtain ⟨c, hc, hrun⟩ := command_of_decodeCmd hd
  rw [hrun] at hex
  obtain ⟨hadm, huntil⟩ := runCommand_next hex
  obtain ⟨k, hk⟩ := run_of_untilIdle ((accept_move c s).agenda.trans hag) huntil
  refine ⟨k + 1, run_of_step ?_ hk⟩
  have hs : { s with agenda := [] } = s := by rw [← hag]
  rw [step_action (by simp)]
  show hostWrite 0 w { s with agenda := [] } = _
  rw [hs]
  exact hostWrite_command hd hc hadm

/-- Settles O24: a step takes the action off the agenda (`step_action`) or is one of CORE (`step_core`); the rule of each
action says which instruction it runs. -/
theorem stepRunsTheDecodedInstruction : Obligations.StepRunsTheDecodedInstruction := by
  intro s rest
  refine ⟨fun w i hd => ?call, fun op args i hd => ⟨fun hb => ?request, fun hb => ?requestBusy⟩,
    fun code ptr len cap i hb hd => ?finish, fun i hb hf hw => ?micro, fun hb hp hr => ?code,
    fun i hb hi hp => ⟨?core, ?waits, ?polls⟩, fun hb hp => ?build⟩
  case call => exact (step_action (by simp) s rest).trans (runAction_call hd _)
  case request => exact ((step_action (by simp) s rest).trans (runAction_request hd _)).trans (if_neg (by simp [hb]))
  case requestBusy => exact ((step_action (by simp) s rest).trans (runAction_request hd _)).trans (if_pos hb)
  case finish => exact (step_action (by simp) s rest).trans (runAction_finish hb hd)
  case micro => exact (step_action (by simp) s rest).trans (runAction_micro hb hf hw)
  case code => exact (step_action (by simp) s rest).trans (runAction_code hb hp hr)
  case core => exact ((step_action (by simp) s rest).trans (runAction_core hb)).trans (stepCore_of_coreInstr hi hp)
  case waits => exact (step_core (s := { s with agenda := [] }) hb (.inl rfl)).trans (stepCore_of_coreInstr hi hp)
  case polls => exact (step_core (s := { s with agenda := .poll :: rest }) hb (.inr rfl)).trans (stepCore_of_coreInstr hi hp)
  case build => exact (step_core (s := { s with agenda := [] }) hb (.inl rfl)).trans (stepCore_build hp)

/-- Settles O60, register by register. -/
theorem hostWritesTheRegisters : Obligations.HostWritesTheRegisters := by
  refine ⟨fun s v hb hv => ?_, fun s v n hb hv h2 h5 => ?_, fun s v n hb h2 h5 => ?_,
    fun s w hb => hostWrite_command_busy w hb, fun s c w i hd hc ha => hostWrite_command hd hc ha, fun s _ => ?_,
    fun s v n hn => hostWrite_readOnlyRegister hn v s, fun s v n hn => hostWrite_noSuchRegister hn v s,
    fun s n v rest => step_action (by simp) s rest⟩
  · exact ⟨hostOperand_of_lt hb hv _, hostOperand_of_lt hb hv _, hostOperand_of_lt hb hv _, hostOperand_of_lt hb hv _⟩
  · obtain ⟨t, ht⟩ := hostWrite_operand h2 h5 v s
    rw [ht, hostOperand_tooWide hb hv]
  · obtain ⟨t, ht⟩ := hostWrite_operand h2 h5 v s
    rw [ht, hostOperand_busy v hb]
  · refine ⟨fun hdt => ?_, fun hptr hlen => ?_, rfl, rfl⟩
    · simp [accept, hdt]
    · simp [accept, hptr, hlen]
end

section
/-! PROOFS, family 10_state: what CORE writes of the table, `BUSY` and PHASE; the invariant of a command and its steps to the end;
the reads of working registers; reset and HOST's reads. -/

namespace Sys2Proof.Machine

open Sys2Proof

/-! ### What a move does to the tables -/

/-- From `s` to `t` neither `SIZE_W` nor `ROM` is written, and `DT` is as before, or was absent and has been built, which took an
`ALLOC_TABLE` (R22, R24, R140, R143). -/
structure TableMove (s t : State) : Prop where
  sizeW : t.sizeW = s.sizeW
  rom : t.rom = s.rom
  table : ∃ pre, t.requests = pre ++ s.requests ∧
    ((t.dtValid = s.dtValid ∧ t.dt = s.dt) ∨
      (s.dtValid = false ∧ t.dtValid = true ∧ t.dt = sortByLength s.rom ∧ Request.allocTable ∈ pre))

/-- A move that presents no request and writes no table. -/
theorem tableMove_of_eq {s t : State} (hw : t.sizeW = s.sizeW := by rfl) (hr : t.rom = s.rom := by rfl)
    (hq : t.requests = s.requests := by rfl) (hv : t.dtValid = s.dtValid := by rfl) (hd : t.dt = s.dt := by rfl) :
    TableMove s t :=
  ⟨hw, hr, [], hq, .inl ⟨hv, hd⟩⟩

theorem TableMove.trans {s t u : State} (h : TableMove s t) (h' : TableMove t u) : TableMove s u := by
  obtain ⟨pre, hpre, hcase⟩ := h.table
  obtain ⟨pre', hpre', hcase'⟩ := h'.table
  refine ⟨h'.sizeW.trans h.sizeW, h'.rom.trans h.rom, pre' ++ pre, by rw [hpre', hpre, List.append_assoc], ?_⟩
  obtain ⟨hv', hd'⟩ | ⟨habs', hv', hd', hm'⟩ := hcase'
  · obtain ⟨hv, hd⟩ | ⟨habs, hv, hd, hm⟩ := hcase
    · exact .inl ⟨hv'.trans hv, hd'.trans hd⟩
    · exact .inr ⟨habs, hv'.trans hv, hd'.trans hd, List.mem_append_right _ hm⟩
  · obtain ⟨hv, -⟩ | ⟨-, hv, -, -⟩ := hcase
    · exact .inr ⟨hv ▸ habs', hv', h.rom ▸ hd', List.mem_append_left _ hm'⟩
    · rw [hv] at habs'; cases habs'

/-- A built table stays as it is (R143). -/
theorem TableMove.built {s t : State} (h : TableMove s t) (hs : s.dtValid = true) : t.dtValid = true ∧ t.dt = s.dt := by
  obtain ⟨pre, -, ⟨hv, hd⟩ | ⟨habs, -⟩⟩ := h.table
  · exact ⟨hv.trans hs, hd⟩
  · rw [hs] at habs; cases habs

/-- A table appears only where `ALLOC_TABLE` was presented (R140). -/
theorem TableMove.requested {s t : State} (h : TableMove s t) (hs : s.dtValid = false) (ht : t.dtValid = true) :
    ∃ pre, t.requests = pre ++ s.requests ∧ Request.allocTable ∈ pre := by
  obtain ⟨pre, hpre, ⟨hv, -⟩ | ⟨-, -, -, hm⟩⟩ := h.table
  · rw [hv, hs] at ht; cases ht
  · exact ⟨pre, hpre, hm⟩

/-- A built table stays the sorted copy of `ROM` (R24). -/
theorem TableMove.dtSound {s t : State} (h : TableMove s t) (hs : DtSound s) : DtSound t := by
  intro ht
  obtain ⟨pre, -, ⟨hv, hd⟩ | ⟨-, -, hd, -⟩⟩ := h.table
  · rw [hd, h.rom]; exact hs (hv ▸ ht)
  · rw [hd, h.rom]

/-- A move inside a micro-operation: `BUSY` and PHASE stay as they are. -/
structure Quiet (s t : State) : Prop extends TableMove s t where
  phase : t.phase = s.phase
  busy : t.busy = s.busy

theorem Quiet.refl (s : State) : Quiet s s := ⟨tableMove_of_eq, rfl, rfl⟩

theorem Quiet.withMem {s t : State} (h : Quiet s t) (m : Memory) : Quiet s (t.withMem m) :=
  ⟨⟨h.sizeW, h.rom, h.table⟩, h.phase, h.busy⟩

theorem Quiet.withWork {s t : State} (h : Quiet s t) (w : Work) : Quiet s (t.withWork w) :=
  ⟨⟨h.sizeW, h.rom, h.table⟩, h.phase, h.busy⟩

theorem Quiet.withRet {s t : State} (h : Quiet s t) (r : Ret) : Quiet s (t.withRet r) :=
  ⟨⟨h.sizeW, h.rom, h.table⟩, h.phase, h.busy⟩

theorem Quiet.useFree {s t : State} (h : Quiet s t) (n : Nat) : Quiet s (t.useFree n) :=
  ⟨⟨h.sizeW, h.rom, h.table⟩, h.phase, h.busy⟩

theorem Quiet.withHostData {s t : State} (h : Quiet s t) (v : Nat) : Quiet s (t.withHostData v) :=
  ⟨⟨h.sizeW, h.rom, h.table⟩, h.phase, h.busy⟩

/-- The step of a micro-operation run in PHASE `p`: the new PHASE is one the table of R37 names for `p`, and `BUSY` falls
exactly where it is `IDLE` (R30, R37). -/
structure MovesFrom (p : Phase) (s t : State) : Prop extends TableMove s t where
  phase : phaseMove p t.phase = true
  busy : t.busy = (s.busy && t.phase != .idle)

/-- A micro-operation ends in a PHASE of the same command. -/
theorem Quiet.moves {p q : Phase} {s t : State} (h : Quiet s t) (hq : phaseMove p q = true) (hi : q ≠ .idle) :
    MovesFrom p s (t.withPhase q) :=
  ⟨⟨h.sizeW, h.rom, h.table⟩, hq, by simp [h.busy, hi]⟩

/-- A micro-operation ends the command. -/
theorem Quiet.ends {p : Phase} {s t : State} (h : Quiet s t) (k : Kind) (ptr len cap : Nat)
    (hp : phaseMove p .idle = true := by rfl) : MovesFrom p s (endCommand k ptr len cap t) :=
  ⟨⟨h.sizeW, h.rom, h.table⟩, hp, by simp⟩

theorem Quiet.thenMoves {p : Phase} {s t u : State} (h : Quiet s t) (h' : MovesFrom p t u) : MovesFrom p s u :=
  ⟨h.toTableMove.trans h'.toTableMove, h'.phase, h.busy ▸ h'.busy⟩

/-- What a step does to the table, and that it keeps `BUSY` = 0 exactly in PHASE `IDLE`. -/
structure EngineMove (s t : State) : Prop extends TableMove s t where
  busyPhase : BusyPhase s → BusyPhase t

theorem Quiet.engineMove {s t : State} (h : Quiet s t) : EngineMove s t where
  toTableMove := h.toTableMove
  busyPhase hs := by unfold BusyPhase; rw [h.phase, h.busy]; exact hs

theorem MovesFrom.engineMove {p : Phase} {s t : State} (h : MovesFrom p s t) (hb : s.busy = true) : EngineMove s t where
  toTableMove := h.toTableMove
  busyPhase _ := by simp [BusyPhase, h.busy, hb]

/-! ### The requests and the output buffer controller leave `BUSY`, PHASE and the table -/

/-- One request presented, and its answer taken. -/
theorem quiet_of_request (s : State) (m : Memory) (as : List Answer) (r : Request) (n : Nat) :
    Quiet s { s with mem := m, answers := as, requests := r :: s.requests, freeNext := n } :=
  ⟨⟨rfl, rfl, [r], rfl, .inl ⟨rfl, rfl⟩⟩, rfl, rfl⟩

theorem reqAlloc_quiet (size : Nat) (zero : Bool) (s : State) : Quiet s (reqAlloc size zero s).2 := by
  rw [reqAlloc_frame]; exact quiet_of_request ..

theorem reqGrow_quiet (h size : Nat) (zero : Bool) (s : State) : Quiet s (reqGrow h size zero s).2 := by
  rw [reqGrow_frame]; exact quiet_of_request ..

theorem reqRelease_quiet (h : Nat) (s : State) : Quiet s (reqRelease h s) :=
  quiet_of_request s _ s.answers _ s.freeNext

theorem reqTable_quiet (s : State) : Quiet s (reqTable s).2 := by
  rw [reqTable_frame]; exact quiet_of_request ..

theorem obAlloc_quiet (size inc : Nat) (zero : Bool) (s : State) : Quiet s (obAlloc size inc zero s).2 := by
  have hq := reqAlloc_quiet size zero s
  unfold obAlloc
  split
  · exact (hq.withWork _).useFree 3
  · exact hq.withWork _

theorem obGrow_quiet {s t : State} {r : Ob} (h : obGrow s = .ok (r, t)) : Quiet s t := by
  obtain ⟨size, -, -, ⟨-, -, rfl⟩ | ⟨g, -, -, rfl⟩⟩ := obGrow_ok h
  · exact reqGrow_quiet ..
  · exact (reqGrow_quiet ..).withWork _

theorem obEnsure_quiet {idx : Nat} {s t : State} {r : Ob} (h : obEnsure idx s = .ok (r, t)) : Quiet s t := by
  obtain ⟨-, -, rfl⟩ | ⟨-, hg⟩ := obEnsure_ok h
  · exact .refl _
  · exact obGrow_quiet hg

theorem obRelease_quiet {s t : State} (h : obRelease s = .ok t) : Quiet s t := by
  obtain ⟨_, -, h⟩ := ok_of_bind h
  split at h
  · cases h; exact (reqRelease_quiet _ s).withWork _
  · cases h

theorem outWrite_quiet {s t : State} {i : Nat} {b : Byte} (h : outWrite s i b = .ok t) : Quiet s t := by
  obtain ⟨m, -, rfl⟩ := outWrite_ok h
  exact (Quiet.refl s).withMem m

/-- `DT.BUILD` builds only an absent table, and only with a grant of its own request (R140, R143). -/
theorem dtBuild_quiet (s : State) : Quiet s (dtBuild s).2 := by
  have hq := reqTable_quiet s
  unfold dtBuild
  split
  · exact .refl s
  · rename_i hv
    split
    · refine ⟨⟨hq.sizeW, hq.rom, [.allocTable], ?_, .inr ⟨by simpa using hv, rfl, rfl, by simp⟩⟩, hq.phase, hq.busy⟩
      rw [reqTable_frame]; rfl
    · exact hq

/-! ### Each micro-operation moves PHASE as the table of R37 allows -/

theorem prewarmBuild_moves (s : State) : MovesFrom .build s (prewarmBuild s) := by
  unfold prewarmBuild
  split
  · exact (dtBuild_quiet s).ends ..
  · exact (dtBuild_quiet s).ends ..

theorem encAlloc_moves {s t : State} (h : encAlloc s = .ok t) : MovesFrom .encAlloc s t := by
  obtain ⟨size, -, h⟩ := ok_of_bind h
  obtain ⟨inc, -, h⟩ := ok_of_bind h
  have hq := obAlloc_quiet size inc true s
  simp only at h
  split at h
  · cases h; exact hq.ends ..
  · cases h; exact (hq.withWork _).moves rfl (by simp)

theorem encFetch_moves {s t : State} (h : encFetch s = .ok t) : MovesFrom .encFetch s t := by
  obtain ⟨_, -, h⟩ := ok_of_bind h
  simp only at h
  split at h
  · cases h; exact (Quiet.refl s).moves rfl (by simp)
  · obtain ⟨b, -, h⟩ := ok_of_bind h
    obtain ⟨e, -, h⟩ := ok_of_bind h
    obtain ⟨i', -, h⟩ := ok_of_bind h
    cases h
    exact ((Quiet.refl s).withWork _).moves rfl (by simp)

theorem encUnwind_moves {s t : State} (h : encUnwind s = .ok t) : MovesFrom .encPack s t := by
  obtain ⟨s1, hr, h⟩ := ok_of_bind h
  cases h
  exact (obRelease_quiet hr).ends ..

theorem encPackByte_moves {idx : Nat} {s t : State} (h : encPackByte idx s = .ok t) : MovesFrom .encPack s t := by
  obtain ⟨_, -, h⟩ := ok_of_bind h
  obtain ⟨old, -, h⟩ := ok_of_bind h
  obtain ⟨s1, hw, h⟩ := ok_of_bind h
  obtain ⟨pos', -, h⟩ := ok_of_bind h
  obtain ⟨len', -, h⟩ := ok_of_bind h
  cases h
  have hq := (outWrite_quiet hw).withWork
  split
  · exact (hq _).moves rfl (by simp)
  · exact (hq _).moves rfl (by simp)

theorem encPack_moves {s t : State} (h : encPack s = .ok t) : MovesFrom .encPack s t := by
  obtain ⟨_, -, h⟩ := ok_of_bind h
  obtain ⟨⟨r, s1⟩, he, h⟩ := ok_of_bind h
  cases r with
  | fail => exact (obEnsure_quiet he).thenMoves (encUnwind_moves h)
  | done => exact (obEnsure_quiet he).thenMoves (encPackByte_moves h)

theorem encPad_moves {s t : State} (h : encPad s = .ok t) : MovesFrom .encPad s t := by
  obtain ⟨_, -, h⟩ := ok_of_bind h
  obtain ⟨len, -, h⟩ := ok_of_bind h
  split at h
  · cases h; exact (Quiet.refl s).ends ..
  · obtain ⟨old, -, h⟩ := ok_of_bind h
    obtain ⟨s1, hw, h⟩ := ok_of_bind h
    cases h
    exact (outWrite_quiet hw).ends ..

theorem decInit_moves (s : State) : MovesFrom .decInit s (decInit s) := by
  unfold decInit
  split
  · exact (dtBuild_quiet s).moves rfl (by simp)
  · exact (dtBuild_quiet s).ends ..

/-- The loop of R210 goes on in `SCANNING` or leaves for `TERM`. -/
theorem loopPhase_cases (p total : Nat) : (p < total ∧ loopPhase p total = .scanning) ∨ loopPhase p total = .term := by
  unfold loopPhase
  split
  · exact .inl ⟨‹_›, rfl⟩
  · exact .inr rfl

/-- A move to the PHASE of the loop, from a PHASE whose row names both. -/
theorem Quiet.movesToLoop {p : Phase} {s t : State} (h : Quiet s t) (d n : Nat) (hs : phaseMove p .scanning = true)
    (ht : phaseMove p .term = true) : MovesFrom p s (t.withPhase (loopPhase d n)) := by
  obtain ⟨-, hl⟩ | hl := loopPhase_cases d n
  · exact h.moves (hl ▸ hs) (by simp [hl])
  · exact h.moves (hl ▸ ht) (by simp [hl])

theorem decCounters_moves {s t : State} (h : decCounters s = .ok t) : MovesFrom .decStart s t := by
  obtain ⟨total, -, h⟩ := ok_of_bind h
  cases h
  exact ((Quiet.refl s).withWork _).movesToLoop _ _ rfl rfl

theorem decStart_moves {s t : State} (h : decStart s = .ok t) : MovesFrom .decStart s t := by
  obtain ⟨inc, -, h⟩ := ok_of_bind h
  split at h
  · obtain ⟨size, -, h⟩ := ok_of_bind h
    have hq := obAlloc_quiet size inc false s
    simp only at h
    split at h
    · cases h; exact hq.ends ..
    · exact hq.thenMoves (decCounters_moves h)
  · exact ((Quiet.refl s).withWork _).thenMoves (decCounters_moves h)

theorem decScan_moves {s t : State} (h : decScan s = .ok t) : MovesFrom .scanning s t := by
  obtain ⟨_, -, h⟩ := ok_of_bind h
  have hq := ((Quiet.refl s).withWork { s.work with scanK := .wr (BitVec.ofNat 9 (scanIndex (scanResult s))) }).withRet
    (.scan (scanResult s))
  simp only at h
  split at h
  · cases h; exact hq.moves rfl (by simp)
  · obtain ⟨_, -, h⟩ := ok_of_bind h
    cases h
    exact hq.ends ..
  · cases h; exact hq.moves rfl (by simp)

theorem decNoMemory_moves {p : Phase} {s t : State} (hp : phaseMove p .idle = true) (h : decNoMemory s = .ok t) :
    MovesFrom p s t := by
  obtain ⟨_, -, h⟩ := ok_of_bind h
  cases h
  exact (Quiet.refl s).ends _ _ _ _ hp

theorem decEmitByte_moves {p : Phase} {e : CodeEntry} {s t : State} (hs : phaseMove p .scanning = true)
    (ht : phaseMove p .term = true) (h : decEmitByte e s = .ok t) : MovesFrom p s t := by
  obtain ⟨_, -, h⟩ := ok_of_bind h
  obtain ⟨s1, hw, h⟩ := ok_of_bind h
  obtain ⟨pos', -, h⟩ := ok_of_bind h
  obtain ⟨done', -, h⟩ := ok_of_bind h
  cases h
  exact ((outWrite_quiet hw).withWork _).movesToLoop _ _ hs ht

/-- `DEC.EMIT`, in `EMIT` or as part of a pass taken in `SCANNING` (R210, R218). -/
theorem decEmit_moves {p : Phase} {k : Nat} {s t : State} (hs : phaseMove p .scanning = true)
    (ht : phaseMove p .term = true) (hi : phaseMove p .idle = true) (h : decEmit k s = .ok t) : MovesFrom p s t := by
  obtain ⟨e, -, h⟩ := ok_of_bind h
  split at h
  · cases h
  · obtain ⟨_, -, h⟩ := ok_of_bind h
    obtain ⟨⟨r, s1⟩, he, h⟩ := ok_of_bind h
    cases r with
    | fail => exact (obEnsure_quiet he).thenMoves (decNoMemory_moves hi h)
    | done => exact (obEnsure_quiet he).thenMoves (decEmitByte_moves hs ht h)

theorem emitFound_moves {s t : State} (h : emitFound s = .ok t) : MovesFrom .emit s t := by
  obtain ⟨_, -, h⟩ := ok_of_bind h
  exact decEmit_moves rfl rfl rfl h

theorem decTerm_moves {s t : State} (h : decTerm s = .ok t) : MovesFrom .term s t := by
  obtain ⟨_, -, h⟩ := ok_of_bind h
  obtain ⟨⟨r, s1⟩, he, h⟩ := ok_of_bind h
  have hq := obEnsure_quiet he
  cases r with
  | fail => exact hq.thenMoves (decNoMemory_moves rfl h)
  | done =>
    obtain ⟨_, -, h⟩ := ok_of_bind h
    obtain ⟨s2, hw, h⟩ := ok_of_bind h
    cases h
    exact hq.thenMoves ((outWrite_quiet hw).ends ..)

theorem codePass_moves {sym : Nat} {s t : State} (h : codePass sym s = .ok t) : MovesFrom .scanning s t := by
  unfold codePass at h
  split at h
  · split at h
    · cases h
    · rename_i k _
      have hq := (Quiet.refl s).withWork { s.work with scanK := .wr (BitVec.ofNat 9 k) }
      simp only at h
      split at h
      · cases h; exact hq.moves rfl (by simp)
      · exact hq.thenMoves (decEmit_moves rfl rfl rfl h)
  · cases h

/-- Every step of CORE moves from its PHASE as the table of R37 allows. -/
theorem coreStep_moves {s t : State} (h : coreStep s = .ok t) : MovesFrom s.phase s t := by
  unfold coreStep at h
  cases hp : s.phase <;> simp only [hp] at h
  case idle => cases h
  case build => cases h; exact prewarmBuild_moves s
  case encAlloc => exact encAlloc_moves h
  case encFetch => exact encFetch_moves h
  case encPack => exact encPack_moves h
  case encPad => exact encPad_moves h
  case decInit => cases h; exact decInit_moves s
  case decStart => exact decStart_moves h
  case scanning => exact decScan_moves h
  case emit => exact emitFound_moves h
  case term => exact decTerm_moves h

/-! ### The commands -/

/-- An accepted command ends at once or stands in its first PHASE (R40, R143, R181). -/
theorem accept_cases (c : Command) (s : State) :
    accept c s = endCommand .ok nullHandle 0 0 (beginCommand .idle s) ∨
      ∃ p, accept c s = beginCommand p s ∧ (p = .build ∨ p = .encAlloc ∨ p = .decInit) := by
  cases c with
  | prewarm =>
    simp only [accept]
    split
    · exact .inl rfl
    · exact .inr ⟨_, rfl, by simp⟩
  | encode =>
    simp only [accept]
    split
    · exact .inl rfl
    · exact .inr ⟨_, rfl, by simp⟩
  | decode => exact .inr ⟨_, rfl, by simp⟩

theorem accept_tableMove (c : Command) (s : State) : TableMove s (accept c s) := by
  obtain h | ⟨p, h, -⟩ := accept_cases c s <;> rw [h] <;> exact tableMove_of_eq

theorem accept_busyPhase (c : Command) (s : State) : BusyPhase (accept c s) := by
  obtain h | ⟨p, h, hp⟩ := accept_cases c s
  · simp [h, BusyPhase]
  · rcases hp with rfl | rfl | rfl <;> simp [h, BusyPhase]

theorem accept_engineMove (c : Command) (s : State) : EngineMove s (accept c s) :=
  ⟨accept_tableMove c s, fun _ => accept_busyPhase c s⟩

/-- The steps of a command keep what each step keeps. -/
theorem untilIdle_engineMove {n : Nat} {s t : State} (h : untilIdle n s = .ok t) : EngineMove s t := by
  induction n generalizing s with
  | zero =>
    unfold untilIdle at h
    split at h
    · cases h
    · cases h; exact (Quiet.refl _).engineMove
  | succ n ih =>
    unfold untilIdle at h
    split at h
    · rename_i hb
      split at h
      · rename_i s1 hs
        have h1 := (coreStep_moves hs).engineMove hb
        exact ⟨h1.toTableMove.trans (ih h).toTableMove, (ih h).busyPhase ∘ h1.busyPhase⟩
      · cases h
    · cases h; exact (Quiet.refl _).engineMove

theorem runCommand_engineMove {c : Command} {s t : State} (h : runCommand c s = .next t) : EngineMove s t := by
  have hu := untilIdle_engineMove (runCommand_next h).2
  exact ⟨(accept_tableMove c s).trans hu.toTableMove, fun _ => hu.busyPhase (accept_busyPhase c s)⟩

/-! ### The rows of the table -/

/-- A decoded request is one of the four rows of the allocator interface (R97). -/
theorem format_of_decode_areq {op : BitVec 3} {args : List Nat} {i : Instr} (h : decode (.areq op args) = .ok i) :
    i.format = .areq := by
  simp only [decode, exactly] at h
  split at h
  · cases h
  · rename_i j hd
    cases h
    unfold decodeAreq at hd
    split at hd
    case h_1 | h_2 => split at hd <;> cases hd; rfl
    case h_3 | h_4 => cases hd; rfl
    all_goals cases hd
  · cases h

/-- A request of HOST leaves `BUSY`, PHASE and the table (R97). -/
theorem exec_areq_quiet {i : Instr} {s t : State} (hf : i.format = .areq) (h : exec i s = .next t) : Quiet s t := by
  cases hsym : i.symbol? with
  | some n => rw [format_of_symbol hsym] at hf; cases hf
  | none =>
    cases i with
    | areqAlloc size zero => obtain ⟨-, rfl⟩ := next_of_guard h; exact (reqAlloc_quiet ..).withRet _
    | areqGrow handle size zero =>
      replace h : execAreqGrow handle size zero s = .next t := h
      unfold execAreqGrow at h
      split at h
      · split at h
        · obtain ⟨-, rfl⟩ := next_of_guard h; exact (reqGrow_quiet ..).withRet _
        · cases h
      · cases h
    | areqRelease handle => obtain ⟨-, rfl⟩ := next_of_guard h; exact (reqRelease_quiet ..).withRet _
    | areqAllocTable => cases h; exact (reqTable_quiet s).withRet _
    | _ => cases hf

/-- A command ended by a row of the kinds (R94, R256, R257). -/
theorem kind_engineMove {k : Kind} {ptr len cap : Nat} {s t : State}
    (h : (if wordsFit s [ptr, len, cap] then Host.Outcome.next (endCommand k ptr len cap s) else .refused .tooWide :
      Host.Outcome State Fault Refusal) = .next t) : EngineMove s t := by
  obtain ⟨-, rfl⟩ := next_of_guard h
  exact ⟨tableMove_of_eq, fun _ => by simp [BusyPhase]⟩

theorem ofOb_quiet {s t : State} {x : Except Fault (Ob × State)} (hx : ∀ r u, x = .ok (r, u) → Quiet s u)
    (h : ofOb x = .next t) : Quiet s t := by
  unfold ofOb at h
  split at h
  · cases h; exact (hx _ _ rfl).withRet _
  · cases h

theorem execRomLookup_quiet {sym : BitVec 9} {s t : State} (h : execRomLookup sym s = .next t) : Quiet s t := by
  unfold execRomLookup at h
  split at h
  · cases h; exact (Quiet.refl s).withRet _
  · cases h

theorem execObRelease_quiet {s t : State} (h : execObRelease s = .next t) : Quiet s t := by
  unfold execObRelease at h
  split at h
  · rename_i u hu; cases h; exact (obRelease_quiet hu).withRet _
  · cases h

theorem execDecWindow_quiet {len : BitVec 6} {s t : State} (h : execDecWindow len s = .next t) : Quiet s t := by
  unfold execDecWindow at h
  split at h
  · cases h
  · split at h
    · cases h
    · split at h
      · cases h; exact (Quiet.refl s).withRet _
      · cases h

/-- A micro-operation that goes on or ends the command, while one is in progress. -/
theorem EngineMove.ofRun {p : Phase} {s t : State} {r : Except Fault State} (hb : s.busy = true)
    (hr : ∀ u, r = .ok u → MovesFrom p s u) (h : ofRun r = .next t) : EngineMove s t :=
  (hr t (ofRun_next h)).engineMove hb

/-- Every row run while a command is in progress keeps the table and `BUSY` with PHASE. -/
theorem exec_engineMove {i : Instr} {s t : State} (hb : s.busy = true) (h : exec i s = .next t) : EngineMove s t := by
  cases hsym : i.symbol? with
  | some n =>
    rw [exec_of_symbol hsym] at h
    exact .ofRun hb (fun _ => codePass_moves) h
  | none =>
    cases i with
    | prewarm => exact runCommand_engineMove h
    | encode => exact runCommand_engineMove h
    | decode => exact runCommand_engineMove h
    | areqAlloc size zero => exact (exec_areq_quiet rfl h).engineMove
    | areqGrow handle size zero => exact (exec_areq_quiet rfl h).engineMove
    | areqRelease handle => exact (exec_areq_quiet rfl h).engineMove
    | areqAllocTable => exact (exec_areq_quiet rfl h).engineMove
    | kindOk ptr len cap => exact kind_engineMove h
    | kindOutOfMemory ptr len cap => exact kind_engineMove h
    | kindInitializationFailed ptr len cap => exact kind_engineMove h
    | kindInternal ptr len cap => exact kind_engineMove h
    | romLookup sym => exact (execRomLookup_quiet h).engineMove
    | dtBuild => cases h; exact ((dtBuild_quiet s).withRet _).engineMove
    | obAlloc size inc zero => obtain ⟨-, rfl⟩ := next_of_guard h; exact ((obAlloc_quiet ..).withRet _).engineMove
    | obAdopt handle cap inc zero =>
      obtain ⟨-, rfl⟩ := next_of_guard h; exact (((Quiet.refl s).withWork _).withRet _).engineMove
    | obEnsure idx => exact (ofOb_quiet (fun _ _ => obEnsure_quiet) h).engineMove
    | obGrow => exact (ofOb_quiet (fun _ _ => obGrow_quiet) h).engineMove
    | obRelease => exact (execObRelease_quiet h).engineMove
    | encAlloc => exact .ofRun hb (fun _ => encAlloc_moves) h
    | encFetch => exact .ofRun hb (fun _ => encFetch_moves) h
    | encPack => exact .ofRun hb (fun _ => encPack_moves) h
    | encPad => exact .ofRun hb (fun _ => encPad_moves) h
    | decInit => cases h; exact (decInit_moves s).engineMove hb
    | decStart => exact .ofRun hb (fun _ => decStart_moves) h
    | decScan => exact .ofRun hb (fun _ => decScan_moves) h
    | decWindow len => exact (execDecWindow_quiet h).engineMove
    | decEmit k => exact .ofRun hb (fun _ => decEmit_moves (p := .emit) rfl rfl rfl) h
    | decTerm => exact .ofRun hb (fun _ => decTerm_moves) h
    | _ => cases hsym

/-! ### HOST's actions and the step -/

theorem stepCore_engineMove {s t : State} (hb : s.busy = true) (h : stepCore s = .next t) : EngineMove s t :=
  .ofRun hb (fun _ => coreStep_moves) (stepCore_eq_coreStep s ▸ h)

theorem hostOperand_quiet {v : Nat} {s t u : State} (h : hostOperand v u s = .next t) (hu : Quiet s u) : Quiet s t := by
  obtain ⟨-, -, rfl⟩ := hostOperand_next h
  exact hu

theorem hostWrite_engineMove {n v : Nat} {s t : State} (h : hostWrite n v s = .next t) : EngineMove s t := by
  unfold hostWrite at h
  split at h
  case h_1 =>
    obtain ⟨-, c, -, -, -, rfl⟩ := hostCommand_next h
    exact accept_engineMove c s
  case h_6 => split at h <;> cases h
  all_goals exact (hostOperand_quiet h ⟨tableMove_of_eq, rfl, rfl⟩).engineMove

theorem readResult_quiet (v : Nat) (s : State) : Quiet s (readResult v s) := by
  unfold readResult
  split
  · exact ((Quiet.refl s).withHostData _).useFree 1
  · exact (Quiet.refl s).withHostData _

theorem hostRead_quiet {n : Nat} {s t : State} (h : hostRead n s = .next t) : Quiet s t := by
  unfold hostRead at h
  split at h
  case h_11 => cases h
  all_goals cases h
  case h_7 | h_8 | h_9 | h_10 => exact readResult_quiet _ s
  all_goals exact (Quiet.refl s).withHostData _

theorem hostPoke_quiet {h off : Nat} {b : Byte} {s t : State} (hp : hostPoke h off b s = .next t) : Quiet s t := by
  unfold hostPoke at hp
  split at hp
  · cases hp
  · split at hp
    · cases hp; exact (Quiet.refl s).withMem _
    · cases hp

theorem hostPeek_quiet {h off : Nat} {s t : State} (hp : hostPeek h off s = .next t) : Quiet s t := by
  unfold hostPeek at hp
  split at hp
  · cases hp
  · split at hp
    · cases hp; exact (Quiet.refl s).withHostData _
    · cases hp

theorem hostProvide_quiet {h cap : Nat} {s t : State} (hp : hostProvide h cap s = .next t) : Quiet s t := by
  unfold hostProvide at hp
  split at hp
  · cases hp
  · split at hp
    · cases hp
    · cases hp; exact ((Quiet.refl s).withMem _).useFree 1

theorem hostRequest_quiet {op : BitVec 3} {args : List Nat} {s t : State} (h : hostRequest op args s = .next t) :
    Quiet s t := by
  unfold hostRequest at h
  split at h
  · cases h
  · rename_i i hd
    split at h
    · cases h
    · exact exec_areq_quiet (format_of_decode_areq hd) h

/-- Every action but a reset keeps the table and `BUSY` with PHASE. -/
theorem runAction_engineMove {a : Action} {s t : State} (ha : a ≠ .reset) (h : runAction a s = .next t) :
    EngineMove s t := by
  cases a with
  | write n v => exact hostWrite_engineMove h
  | read n => exact (hostRead_quiet h).engineMove
  | poll => cases h; exact ((Quiet.refl s).withHostData _).engineMove
  | call w =>
    simp only [runAction] at h
    split at h
    · cases h
    · rename_i i hd
      obtain ⟨c, -, hc⟩ := command_of_decodeCmd hd
      exact runCommand_engineMove (hc ▸ h)
  | request op args => exact (hostRequest_quiet h).engineMove
  | provide h' cap => exact (hostProvide_quiet h).engineMove
  | poke h' off b => exact (hostPoke_quiet h).engineMove
  | peek h' off => exact (hostPeek_quiet h).engineMove
  | reset => exact absurd rfl ha
  | core =>
    simp only [runAction] at h
    split at h
    · exact stepCore_engineMove ‹_› h
    · cases h
  | code =>
    simp only [runAction, stepCode] at h
    split at h
    · rename_i hg
      split at h
      · cases h
      · exact exec_engineMove (by simp_all) h
    · cases h
  | micro i =>
    simp only [runAction] at h
    split at h
    · cases h
    · rename_i hb
      split at h
      · exact exec_engineMove (by simpa using hb) h
      · cases h
  | finish code ptr len cap =>
    simp only [runAction] at h
    split at h
    · exact exec_engineMove ‹_› h
    · cases h

/-- All that a completed reset is (R55, R290; log entry 23). -/
theorem hostReset_next {s t : State} (h : hostReset s = .next t) : s.busy = false ∧
    t = { State.reset with
      sizeW := s.sizeW, rom := s.rom, mem := s.mem, answers := s.answers, requests := s.requests, hostData := s.hostData,
      agenda := s.agenda, freeNext := s.freeNext } := by
  unfold hostReset at h
  split at h
  · cases h
  · cases h; exact ⟨by simpa using ‹¬s.busy = true›, rfl⟩

theorem EngineMove.of_agenda {s t : State} {rest : List Action} (h : EngineMove { s with agenda := rest } t) :
    EngineMove s t :=
  ⟨⟨h.sizeW, h.rom, h.table⟩, h.busyPhase⟩

/-- CORE moves only while a command is in progress; every other step waits or takes an action (R20, R262). -/
theorem step_cases_busy (s : State) : (s.busy = true ∧ step s = stepCore s) ∨ step s = .next s ∨
    ∃ a rest, s.agenda = a :: rest ∧ step s = runAction a { s with agenda := rest } := by
  by_cases hb : s.busy = true
  · obtain ⟨h, -⟩ | h | h := step_cases s
    · rw [hb] at h; cases h
    · exact .inl ⟨hb, h⟩
    · exact .inr (.inr h)
  · cases hag : s.agenda with
    | nil => exact .inr (.inl (by simp [step, stepAgenda, hag, hb]))
    | cons a rest =>
      refine .inr (.inr ⟨a, rest, rfl, ?_⟩)
      by_cases ha : a = .poll
      · subst ha; simp [step, stepAgenda, hag, hb]
      · rw [← step_action ha s rest, ← hag]

/-- Every step keeps the table and `BUSY` with PHASE, but for HOST's reset. -/
theorem step_engineMove {s t : State} (h : step s = .next t) : EngineMove s t ∨
    (s.agenda.head? = some .reset ∧ ∃ rest, hostReset { s with agenda := rest } = .next t) := by
  obtain ⟨hb, hs⟩ | hs | ⟨a, rest, hag, hs⟩ := step_cases_busy s
  · exact .inl (stepCore_engineMove hb (hs ▸ h))
  · rw [hs] at h; cases h; exact .inl (Quiet.refl s).engineMove
  · rw [hs] at h
    by_cases ha : a = .reset
    · subst ha; exact .inr ⟨by rw [hag]; rfl, rest, h⟩
    · exact .inl (runAction_engineMove ha h).of_agenda

/-! ### Runs that go on -/

/-- A check of registers that are all written is no step of its own. -/
theorem needs_of_written {s : State} {rs : List WName} (h : ∀ r ∈ rs, s.work.isWritten r = true) : needs s rs = .ok () :=
  (needs_ok_iff s rs).2 h

/-- A run whose first part goes on, and then the rest. -/
theorem bind_of_ok {α β : Type} {x : Except Fault α} {a : α} (h : x = .ok a) (f : α → Except Fault β) :
    (x >>= f) = f a := by
  rw [h]; rfl

/-! ### The widths R96 promises -/

/-- `SIZE_W` from 11 on and `IN_LEN` in range leave room for every counter of a command (R8, R96). -/
structure Room (s : State) : Prop where
  input : 64 * s.inLen + 64 ≤ 2 ^ s.sizeW
  least : 2048 ≤ 2 ^ s.sizeW

theorem Room.of_eq {s t : State} (h : Room s) (hn : t.inLen = s.inLen) (hw : t.sizeW = s.sizeW) : Room t :=
  ⟨by rw [hn, hw]; exact h.input, by rw [hw]; exact h.least⟩

theorem room_of_range {s : State} (hw : 11 ≤ s.sizeW) (hr : s.inLen < 2 ^ (s.sizeW - 6)) : Room s := by
  have hsplit : 2 ^ s.sizeW = 2 ^ (s.sizeW - 6) * 2 ^ 6 := by rw [← pow_add]; congr 1; omega
  have hleast : 2 ^ 11 ≤ 2 ^ s.sizeW := Nat.pow_le_pow_right (by omega) hw
  exact ⟨by omega, by omega⟩

/-! ### Regions that stay -/

/-- Which regions are live, their capacities and their origin are the same. -/
def SameRegions (m m' : Memory) : Prop :=
  ∀ g, (regionGet m' g).map (fun r => (r.cap, r.granted)) = (regionGet m g).map (fun r => (r.cap, r.granted))

theorem SameRegions.refl (m : Memory) : SameRegions m m := fun _ => rfl

/-- A live region has a counterpart of the same capacity and origin. -/
theorem SameRegions.get {m m' : Memory} (h : SameRegions m m') {g : Nat} {r : Region} (hr : regionGet m g = some r) :
    ∃ r', regionGet m' g = some r' ∧ r'.cap = r.cap ∧ r'.granted = r.granted := by
  have hg := h g
  rw [hr] at hg
  obtain ⟨r', hr', he⟩ := Option.map_eq_some_iff.1 hg
  exact ⟨r', hr', congrArg Prod.fst he, congrArg Prod.snd he⟩

theorem InputLive.of_sameRegions {s t : State} (h : InputLive s) (hm : SameRegions s.mem t.mem)
    (hptr : t.inPtr = s.inPtr := by rfl) (hlen : t.inLen = s.inLen := by rfl) : InputLive t := by
  obtain ⟨r, hr, hcap⟩ := h
  obtain ⟨r', hr', hc, -⟩ := hm.get hr
  exact ⟨r', hptr ▸ hr', by rw [hlen, hc]; exact hcap⟩

/-- The controller's registers are all written. -/
theorem obWritten_iff (w : Work) :
    (∀ r ∈ [WName.obPtr, .obCap, .obLen, .obInc, .obZero], w.isWritten r = true) ↔
      w.obPtr.written = true ∧ w.obCap.written = true ∧ w.obLen.written = true ∧ w.obInc.written = true ∧
        w.obZero.written = true := by
  simp [Work.isWritten]

/-- A check of the controller's registers passes. -/
theorem ObReady.needs {s : State} (h : ObReady s) {rs : List WName}
    (hrs : ∀ r ∈ rs, r ∈ [WName.obPtr, .obCap, .obLen, .obInc, .obZero] := by decide) : needs s rs = .ok () :=
  needs_of_written fun r hr => h.written r (hrs r hr)

/-- The controller's registers and their region stay ready while only `OB_LEN` is written, and regions only in their bytes. -/
theorem ObReady.update {s t : State} (h : ObReady s) (hm : SameRegions s.mem t.mem)
    (hw : t.work.obLen.written = true) (hl : t.work.obLen.value ≤ s.work.obCap.value)
    (hptr : t.work.obPtr = s.work.obPtr := by rfl) (hcap : t.work.obCap = s.work.obCap := by rfl)
    (hinc : t.work.obInc = s.work.obInc := by rfl) (hzero : t.work.obZero = s.work.obZero := by rfl) : ObReady t := by
  obtain ⟨r, hr, hg, hc⟩ := h.region
  obtain ⟨r', hr', hc', hg'⟩ := hm.get hr
  obtain ⟨hw1, hw2, -, hw4, hw5⟩ := (obWritten_iff _).1 h.written
  exact ⟨(obWritten_iff _).2 ⟨hptr ▸ hw1, hcap ▸ hw2, hw, hinc ▸ hw4, hzero ▸ hw5⟩, hptr ▸ h.notNull,
    ⟨r', hptr ▸ hr', hg'.trans hg, by rw [hc', hc, hcap]⟩, hcap ▸ hl⟩

/-- They stay ready while nothing of them is written. -/
theorem ObReady.congr {s t : State} (h : ObReady s) (hm : t.mem = s.mem := by rfl)
    (hptr : t.work.obPtr = s.work.obPtr := by rfl) (hcap : t.work.obCap = s.work.obCap := by rfl)
    (hlen : t.work.obLen = s.work.obLen := by rfl) (hinc : t.work.obInc = s.work.obInc := by rfl)
    (hzero : t.work.obZero = s.work.obZero := by rfl) : ObReady t := by
  obtain ⟨-, -, hw, -⟩ := (obWritten_iff _).1 h.written
  exact h.update (hm ▸ .refl _) (hlen ▸ hw) (hlen ▸ h.len) hptr hcap hinc hzero

/-- A byte below the capacity reads (R62). -/
theorem outRead_ready {s : State} (h : ObReady s) {i : Nat} (hi : i < s.work.obCap.value) :
    ∃ b, outRead s i = .ok b := by
  obtain ⟨r, hr, -, hc⟩ := h.region
  exact ⟨r.byteAt i, by simp [outRead, readByte, hr, hc, hi]⟩

/-- A byte below the capacity is written, and nothing else of the regions changes (R62). -/
theorem outWrite_ready {s : State} (h : ObReady s) {i : Nat} (hi : i < s.work.obCap.value) (b : Byte) :
    ∃ m, outWrite s i b = .ok (s.withMem m) ∧ SameRegions s.mem m := by
  obtain ⟨r, hr, -, hc⟩ := h.region
  have hw : writeByte s.mem s.work.obPtr.value i b = some (regionPut s.mem { r with cells := cellSet r.cells i b }) := by
    simp [writeByte, hr, hc, hi]
  exact ⟨_, by simp [outWrite, hw], regionGet_writeByte hw⟩

/-! ### The controller obtains and grows a region (R165, R167, R168) -/

theorem ne_of_not_live {m : Memory} {x g : Nat} {r : Region} (hr : regionGet m x = some r) (hg : isLive m g = false) :
    x ≠ g := by
  rintro rfl
  rw [(isLive_iff m x).2 ⟨r, hr⟩] at hg
  cases hg

/-- The state after `OB.ALLOC` has succeeded, from `s` (R165). -/
structure Obtained (size inc : Nat) (zero : Bool) (s t : State) : Prop where
  ob : ObReady t
  work : t.work = obRegisters t.work.obPtr.value size inc zero s.work
  others : ∀ (x : Nat) (r : Region), regionGet s.mem x = some r → x ≠ t.work.obPtr.value ∧ regionGet t.mem x = some r
  sizeW : t.sizeW = s.sizeW
  inPtr : t.inPtr = s.inPtr
  inLen : t.inLen = s.inLen
  dtValid : t.dtValid = s.dtValid

theorem obAlloc_obtained (size inc : Nat) (zero : Bool) (s : State) : (obAlloc size inc zero s).1 = .fail ∨
    ((obAlloc size inc zero s).1 = .done ∧ Obtained size inc zero s (obAlloc size inc zero s).2) := by
  obtain ⟨h, -⟩ | ⟨g, hd, hg, ht⟩ := obAlloc_cases size inc zero s
  · exact .inl h
  obtain ⟨hn, -⟩ | ⟨g', seed, hg', -, hnull, hfree, hmem⟩ := reqAlloc_cases size zero s
  · rw [hn] at hg; cases hg
  rw [hg] at hg'; cases hg'
  have hself := regionGet_regionPut_same s.mem (newRegion g size zero seed)
  rw [← hmem] at hself
  rw [ht]
  refine .inr ⟨hd, ?_⟩
  exact {
    ob := ⟨(obWritten_iff _).2 ⟨rfl, rfl, rfl, rfl, rfl⟩, hnull, ⟨_, hself, rfl, rfl⟩, Nat.zero_le _⟩
    work := by rw [reqAlloc_frame]; rfl
    others := fun x r hr => by
      have hx : x ≠ g := ne_of_not_live hr hfree
      refine ⟨hx, ?_⟩
      rw [State.withWork_mem, hmem, regionGet_regionPut_other s.mem (newRegion g size zero seed) hx, hr]
    sizeW := by rw [reqAlloc_frame]; rfl
    inPtr := by rw [reqAlloc_frame]; rfl
    inLen := by rw [reqAlloc_frame]; rfl
    dtValid := by rw [reqAlloc_frame]; rfl }

/-- The input region stays, apart from the one obtained (R161). -/
theorem Obtained.input {size inc : Nat} {zero : Bool} {s t : State} (h : Obtained size inc zero s t) (hi : InputLive s) :
    InputLive t ∧ t.work.obPtr.value ≠ t.inPtr := by
  obtain ⟨r, hr, hcap⟩ := hi
  obtain ⟨hne, hr'⟩ := h.others _ r hr
  exact ⟨⟨r, h.inPtr ▸ hr', h.inLen ▸ hcap⟩, h.inPtr ▸ hne.symm⟩

theorem Obtained.obCap {size inc : Nat} {zero : Bool} {s t : State} (h : Obtained size inc zero s t) :
    t.work.obCap = .wr size := by rw [h.work]; rfl

theorem Obtained.obLen {size inc : Nat} {zero : Bool} {s t : State} (h : Obtained size inc zero s t) :
    t.work.obLen = .wr 0 := by rw [h.work]; rfl

theorem Obtained.obInc {size inc : Nat} {zero : Bool} {s t : State} (h : Obtained size inc zero s t) :
    t.work.obInc = .wr inc := by rw [h.work]; rfl

theorem Obtained.obZero {size inc : Nat} {zero : Bool} {s t : State} (h : Obtained size inc zero s t) :
    t.work.obZero = .wr (flagBit zero) := by rw [h.work]; rfl

/-- The state after `OB.ENSURE idx` has succeeded, from `s` (R167). -/
structure Ensured (idx : Nat) (s t : State) : Prop where
  ob : ObReady t
  room : idx < t.work.obCap.value
  cap : t.work.obCap.value = s.work.obCap.value ∨
    (s.work.obCap.value ≤ idx ∧ t.work.obCap.value = s.work.obCap.value + s.work.obInc.value)
  others : ∀ (x : Nat) (r : Region), x ≠ s.work.obPtr.value → regionGet s.mem x = some r →
    x ≠ t.work.obPtr.value ∧ regionGet t.mem x = some r
  work : t.work = { s.work with obPtr := t.work.obPtr, obCap := t.work.obCap }
  sizeW : t.sizeW = s.sizeW
  inPtr : t.inPtr = s.inPtr
  inLen : t.inLen = s.inLen
  dtValid : t.dtValid = s.dtValid

/-- `OB.GROW` of a ready region is denied, and the regions stay, or it grows the region (R168). -/
theorem obGrow_ready {s : State} (h : ObReady s) (hinc : 0 < s.work.obInc.value)
    (hfit : s.work.obCap.value + s.work.obInc.value < 2 ^ s.sizeW) :
    (∃ t, obGrow s = .ok (.fail, t) ∧ t.mem = s.mem ∧ t.work = s.work) ∨
      ∃ t, obGrow s = .ok (.done, t) ∧
        ∀ idx, s.work.obCap.value ≤ idx → idx ≤ s.work.obLen.value → Ensured idx s t := by
  obtain ⟨r, hr, hgr, hcap⟩ := h.region
  have hlen := h.len
  have hgrow : growable s.mem s.work.obPtr.value (s.work.obCap.value + s.work.obInc.value) = true :=
    (growable_iff _ _ _).2 ⟨r, hr, by omega⟩
  unfold obGrow
  rw [bind_of_ok h.needs, bind_of_ok (fit_of_lt hfit), if_pos hgrow]
  generalize hsize : s.work.obCap.value + s.work.obInc.value = size
  have hframe := reqGrow_frame s.work.obPtr.value size (obZeroFlag s) s
  have hcases := reqGrow_cases s.work.obPtr.value size (obZeroFlag s) s
  generalize reqGrow s.work.obPtr.value size (obZeroFlag s) s = q at hframe hcases
  have hwork : q.2.work = s.work := by rw [hframe]
  obtain ⟨hn, hm⟩ | ⟨g, r', hg, hr', hl, hm⟩ := hcases
  · exact .inl ⟨_, by simp only [hn], hm, hwork⟩
  rw [hr] at hr'; cases hr'
  have hself := regionGet_regionPut_same (regionDrop s.mem s.work.obPtr.value) (grownRegion r g size (obZeroFlag s))
  rw [← hm] at hself
  obtain ⟨-, -, hw3, hw4, hw5⟩ := (obWritten_iff _).1 h.written
  have hnull : g ≠ nullHandle := by
    obtain rfl | ⟨-, hnull, -⟩ := hl
    · exact h.notNull
    · exact hnull
  have hother : ∀ x p, x ≠ s.work.obPtr.value → regionGet s.mem x = some p → x ≠ g := fun x p hx hp => by
    obtain rfl | ⟨-, -, hfree⟩ := hl
    · exact hx
    · exact ne_of_not_live hp hfree
  refine .inr ⟨_, by simp only [hg]; rfl, fun idx hge hidx => ?_⟩
  rw [hwork]
  exact {
    ob := ⟨(obWritten_iff _).2 ⟨rfl, rfl, hw3, hw4, hw5⟩, hnull, ⟨_, hself, rfl, rfl⟩,
      show s.work.obLen.value ≤ size by omega⟩
    room := show idx < size by omega
    cap := .inr ⟨hge, hsize.symm⟩
    others := fun x p hx hp => by
      have hxg := hother x p hx hp
      refine ⟨hxg, ?_⟩
      rw [State.withWork_mem, hm, regionGet_regionPut_other _ (grownRegion r g size _) hxg,
        regionGet_regionDrop_other _ hx, hp]
    work := rfl
    sizeW := by rw [hframe]; rfl
    inPtr := by rw [hframe]; rfl
    inLen := by rw [hframe]; rfl
    dtValid := by rw [hframe]; rfl }

/-- `OB.ENSURE` of the next byte of a ready region is denied, and the regions stay, or the byte is inside the region. -/
theorem obEnsure_ready {idx : Nat} {s : State} (h : ObReady s) (hidx : idx ≤ s.work.obLen.value)
    (hinc : 0 < s.work.obInc.value)
    (hfit : s.work.obCap.value ≤ idx → s.work.obCap.value + s.work.obInc.value < 2 ^ s.sizeW) :
    (∃ t, obEnsure idx s = .ok (.fail, t) ∧ t.mem = s.mem ∧ t.work = s.work) ∨
      ∃ t, obEnsure idx s = .ok (.done, t) ∧ Ensured idx s t := by
  unfold obEnsure
  rw [bind_of_ok h.needs]
  split
  · rename_i hc
    obtain hf | ⟨t, ht, he⟩ := obGrow_ready h hinc (hfit hc)
    · exact .inl hf
    · exact .inr ⟨t, ht, he idx hc hidx⟩
  · rename_i hc
    exact .inr ⟨s, rfl, h, by omega, .inl rfl, fun x r hx hr => ⟨hx, hr⟩, rfl, rfl, rfl, rfl, rfl⟩

/-- The input region stays, apart from the one grown (R162). -/
theorem Ensured.input {idx : Nat} {s t : State} (h : Ensured idx s t) (hi : InputLive s)
    (hne : s.work.obPtr.value ≠ s.inPtr) : InputLive t ∧ t.work.obPtr.value ≠ t.inPtr := by
  obtain ⟨r, hr, hcap⟩ := hi
  obtain ⟨hne', hr'⟩ := h.others _ r hne.symm hr
  exact ⟨⟨r, h.inPtr ▸ hr', h.inLen ▸ hcap⟩, h.inPtr ▸ hne'.symm⟩

/-- `OB.RELEASE` of a ready region (R169). -/
theorem obRelease_ready {s : State} (h : ObReady s) : ∃ t, obRelease s = .ok t := by
  obtain ⟨r, hr, -⟩ := h.region
  unfold obRelease
  rw [bind_of_ok h.needs, if_pos ((isLive_iff _ _).2 ⟨r, hr⟩)]
  exact ⟨_, rfl⟩

/-! ### The steps a command has left -/

/-- A bound on the steps left to the end of the command: at most 31 for each symbol to encode (its fetch and the passes of its
code of at most 30 bits), two for each bit to decode (R192, R232). -/
def stepsLeft (s : State) : Nat :=
  match s.phase with
  | .idle => 0
  | .build => 1
  | .encAlloc => 31 * s.inLen + 3
  | .encFetch => 31 * (s.inLen - s.work.symIdx.value) + 2
  | .encPack => 31 * (s.inLen - s.work.symIdx.value) + 2 + s.work.bitsLeft.value.toNat
  | .encPad => 1
  | .decInit => 16 * s.inLen + 4
  | .decStart => 16 * s.inLen + 3
  | .scanning => 2 * (s.work.bitsTotal.value - s.work.bitsDone.value) + 2
  | .emit => 2 * (s.work.bitsTotal.value - s.work.bitsDone.value) + 1
  | .term => 1

/-- A command has ended: `BUSY` = 0, PHASE `IDLE`, and no working register counts as written (R256, R257). -/
structure Ended (s : State) : Prop where
  busy : s.busy = false
  phase : s.phase = .idle
  unwritten : ∀ r, s.work.isWritten r = false

theorem endCommand_ended (k : Kind) (ptr len cap : Nat) (s : State) : Ended (endCommand k ptr len cap s) :=
  ⟨rfl, rfl, fun r => by simp⟩

/-- A run of one step that goes on, and leaves the command ended, or in its invariant with fewer than `n` steps left. -/
def Advances (n : Nat) (x : Except Fault State) : Prop :=
  ∃ t, x = .ok t ∧ (Ended t ∨ (PhaseInv t ∧ stepsLeft t < n))

theorem Advances.ends {n : Nat} (k : Kind) (ptr len cap : Nat) (s : State) :
    Advances n (.ok (endCommand k ptr len cap s)) :=
  ⟨_, rfl, .inl (endCommand_ended ..)⟩

theorem Advances.goes {n : Nat} {t : State} (h : PhaseInv t) (hn : stepsLeft t < n) : Advances n (.ok t) :=
  ⟨t, rfl, .inr ⟨h, hn⟩⟩

/-- A run that advances after a first part that goes on. -/
theorem Advances.after {α : Type} {n : Nat} {x : Except Fault α} {a : α} {f : α → Except Fault State} (hx : x = .ok a)
    (h : Advances n (f a)) : Advances n (x >>= f) := by
  rw [bind_of_ok hx]; exact h

/-! ### The encoder's steps (R183 to R188) -/

/-- The codes of the symbols taken so far fill a counter that fits (R96). -/
theorem EncReady.bits_le {s : State} (h : EncReady s) : s.work.bitsSet.value ≤ 30 * s.inLen :=
  h.bits.trans (Nat.mul_le_mul_left 30 h.index)

theorem EncReady.withPhase {s : State} (h : EncReady s) (p : Phase) : EncReady (s.withPhase p) where
  ob := h.ob.congr
  inc := h.inc
  zero := h.zero
  input := h.input
  apart := h.apart
  written := h.written
  index := h.index
  bits := h.bits
  used := h.used
  cap := h.cap

theorem encAlloc_advances {s : State} (hroom : Room s) (hin : InputLive s) :
    Advances (31 * s.inLen + 3) (encAlloc s) := by
  obtain ⟨hinput, hleast⟩ := hroom
  have hcap : cap0 s.inLen < 2 ^ s.sizeW := by unfold cap0; omega
  refine .after (fit_of_lt hcap) (.after (fit_of_lt (show encInc < 2 ^ s.sizeW by unfold encInc; omega)) ?_)
  obtain hf | ⟨hd, hob⟩ := obAlloc_obtained (cap0 s.inLen) encInc true s
  · simp only [hf]; exact .ends ..
  · simp only [hd]
    obtain ⟨hlive, hapart⟩ := hob.input hin
    generalize (obAlloc (cap0 s.inLen) encInc true s).2 = t at hob hlive hapart
    refine .goes (t := (t.withWork _).withPhase .encFetch) (show EncReady _ from ?_) ?_
    · exact {
        ob := hob.ob.congr
        inc := congrArg WReg.value hob.obInc
        zero := congrArg WReg.value hob.obZero
        input := hlive.of_sameRegions (.refl _)
        apart := hapart
        written := ⟨rfl, rfl⟩
        index := Nat.zero_le _
        bits := Nat.zero_le _
        used := by simp [hob.obLen]
        cap := by simp [hob.obCap, hob.inLen] }
    · show 31 * (t.inLen - 0) + 2 < _
      rw [hob.inLen]; omega

theorem encFetch_advances {s : State} (hrom : RomWf s.rom) (hroom : Room s) (h : EncReady s) :
    Advances (31 * (s.inLen - s.work.symIdx.value) + 2) (encFetch s) := by
  obtain ⟨hinput, hleast⟩ := hroom
  refine .after (needs_of_written (by simpa [Work.isWritten] using h.written.1)) ?_
  simp only
  split
  · rename_i hend
    exact .goes (t := s.withPhase .encPad) ⟨h.withPhase _, hend⟩ (show 1 < _ by omega)
  · rename_i hne
    have hlt : s.work.symIdx.value < s.inLen := Nat.lt_of_le_of_ne h.index hne
    obtain ⟨r, hr, hcap⟩ := h.input
    have hread : inRead s s.work.symIdx.value = .ok (r.byteAt s.work.symIdx.value) := by
      simp [inRead, readByte, hr, Nat.lt_of_lt_of_le hlt hcap]
    have hb : (r.byteAt s.work.symIdx.value).toNat < s.rom.length := by
      rw [hrom.wf1.1]; have := (r.byteAt s.work.symIdx.value).isLt; unfold nsym; omega
    obtain ⟨e, he⟩ : ∃ e, s.rom[(r.byteAt s.work.symIdx.value).toNat]? = some e := ⟨_, List.getElem?_eq_getElem hb⟩
    obtain ⟨hmin, hmax⟩ := hrom.wf2 e (List.mem_of_getElem? he)
    have hbits := h.bits
    refine .after hread (.after (show romAt s _ = .ok e by simp [romAt, he])
      (.after (fit_of_lt (show s.work.symIdx.value + 1 < 2 ^ s.sizeW by omega)) ?_))
    refine .goes (t := (s.withWork _).withPhase .encPack) (show EncReady _ ∧ Packing _ from ⟨?_, ?_⟩) ?_
    · exact {
        ob := h.ob.congr
        inc := h.inc
        zero := h.zero
        input := h.input
        apart := h.apart
        written := ⟨rfl, h.written.2⟩
        index := hlt
        bits := show s.work.bitsSet.value ≤ 30 * (s.work.symIdx.value + 1) by omega
        used := h.used
        cap := h.cap }
    · exact {
        written := ⟨rfl, rfl⟩
        left := show 1 ≤ e.length.toNat by omega
        bits := show s.work.bitsSet.value + e.length.toNat ≤ 30 * (s.work.symIdx.value + 1) by omega }
    · show 31 * (s.inLen - (s.work.symIdx.value + 1)) + 2 + e.length.toNat < _
      omega

/-- A pass of a code writes at least one bit, within one byte and within the code (R185). -/
theorem packCount_bounds {pos left : Nat} (h : 1 ≤ left) :
    1 ≤ packCount pos left ∧ packCount pos left ≤ left ∧ pos / 8 = (pos + packCount pos left - 1) / 8 := by
  unfold packCount packFree
  omega

theorem encPackByte_advances {s : State} (hroom : Room s) (h : EncReady s) (hp : Packing s)
    (hi : s.work.bitsSet.value / 8 < s.work.obCap.value) :
    Advances (31 * (s.inLen - s.work.symIdx.value) + 2 + s.work.bitsLeft.value.toNat)
      (encPackByte (s.work.bitsSet.value / 8) s) := by
  obtain ⟨hinput, hleast⟩ := hroom
  obtain ⟨hone, hle, hbyte⟩ := packCount_bounds (pos := s.work.bitsSet.value) hp.left
  have hbits := hp.bits
  have hidx := h.index
  have hcap := h.cap
  have hleft := s.work.bitsLeft.value.isLt
  obtain ⟨old, hold⟩ := outRead_ready h.ob hi
  obtain ⟨m, hm, hsame⟩ := outWrite_ready h.ob hi (old ||| packByte s.work.curCode.value.toNat s.work.bitsSet.value
    s.work.bitsLeft.value.toNat)
  refine .after h.ob.needs ?_
  simp only
  refine .after hold (.after hm (.after (fit_of_lt (show _ < 2 ^ s.sizeW by omega))
    (.after (fit_of_lt (show _ < 2 ^ s.sizeW by omega)) ?_)))
  generalize packCount s.work.bitsSet.value s.work.bitsLeft.value.toNat = n at *
  have hrest : (BitVec.ofNat 6 (s.work.bitsLeft.value.toNat - n)).toNat = s.work.bitsLeft.value.toNat - n := by
    rw [BitVec.toNat_ofNat]; omega
  have hready : EncReady ((s.withMem m).withWork { s.work with
      obLen := .wr (s.work.bitsSet.value / 8 + 1), bitsSet := .wr (s.work.bitsSet.value + n),
      bitsLeft := .wr (BitVec.ofNat 6 (s.work.bitsLeft.value.toNat - n)) }) := {
    ob := h.ob.update hsame rfl hi
    inc := h.inc
    zero := h.zero
    input := h.input.of_sameRegions hsame
    apart := h.apart
    written := ⟨h.written.1, rfl⟩
    index := h.index
    bits := show s.work.bitsSet.value + n ≤ 30 * s.work.symIdx.value by omega
    used := show s.work.bitsSet.value / 8 + 1 = (s.work.bitsSet.value + n + 7) / 8 by omega
    cap := show s.work.obCap.value ≤ cap0 s.inLen + 100 + (s.work.bitsSet.value + n) / 8 by omega }
  split
  · exact .goes (t := State.withPhase _ .encFetch) (hready.withPhase .encFetch)
      (show 31 * (s.inLen - s.work.symIdx.value) + 2 < _ by omega)
  · refine .goes (t := State.withPhase _ .encPack) ⟨hready.withPhase .encPack, ⟨hp.written.1, rfl⟩, ?_, ?_⟩ ?_
    · show 1 ≤ (BitVec.ofNat 6 (s.work.bitsLeft.value.toNat - n)).toNat
      omega
    · show s.work.bitsSet.value + n + (BitVec.ofNat 6 (s.work.bitsLeft.value.toNat - n)).toNat ≤ 30 * s.work.symIdx.value
      omega
    · show 31 * (s.inLen - s.work.symIdx.value) + 2 + (BitVec.ofNat 6 (s.work.bitsLeft.value.toNat - n)).toNat < _
      omega

/-- Growing the region keeps the encoder's invariant (R171). -/
theorem Ensured.encReady {s t : State} (ht : Ensured (s.work.bitsSet.value / 8) s t) (h : EncReady s) : EncReady t := by
  obtain ⟨hlive, hapart⟩ := ht.input h.input h.apart
  have hcap := ht.cap
  rw [h.inc] at hcap
  have hold := h.cap
  refine ⟨ht.ob, ?_, ?_, hlive, hapart, ?_, ?_, ?_, ?_, ?_⟩
  all_goals rw [ht.work]
  · exact h.inc
  · exact h.zero
  · exact h.written
  · rw [ht.inLen]; exact h.index
  · exact h.bits
  · exact h.used
  · show t.work.obCap.value ≤ cap0 t.inLen + 100 + s.work.bitsSet.value / 8
    rw [ht.inLen]
    unfold encInc at hcap
    omega

theorem encPack_advances {s : State} (hroom : Room s) (h : EncReady s) (hp : Packing s) :
    Advances (31 * (s.inLen - s.work.symIdx.value) + 2 + s.work.bitsLeft.value.toNat) (encPack s) := by
  obtain ⟨hinput, hleast⟩ := id hroom
  have hbits := h.bits_le
  have hused := h.used
  refine .after (needs_of_written (by simpa [Work.isWritten] using ⟨h.written.2, hp.written.2, hp.written.1⟩)) ?_
  simp only
  obtain ⟨t, ht, hmem, hwork⟩ | ⟨t, ht, he⟩ := obEnsure_ready (idx := s.work.bitsSet.value / 8) h.ob (by omega)
    (by rw [h.inc]; decide) (fun hc => by rw [h.inc]; unfold encInc; omega)
  · refine .after ht ?_
    have hob : ObReady t := h.ob.congr hmem (by rw [hwork]) (by rw [hwork]) (by rw [hwork]) (by rw [hwork]) (by rw [hwork])
    obtain ⟨u, hu⟩ := obRelease_ready hob
    exact .after hu (.ends ..)
  · refine .after ht ?_
    have hsym : t.work.symIdx = s.work.symIdx := by rw [he.work]
    have hset : t.work.bitsSet = s.work.bitsSet := by rw [he.work]
    have hleft : t.work.bitsLeft = s.work.bitsLeft := by rw [he.work]
    have hcode : t.work.curCode = s.work.curCode := by rw [he.work]
    have hpt : Packing t := ⟨by rw [hcode, hleft]; exact hp.written, by rw [hleft]; exact hp.left,
      by rw [hset, hleft, hsym]; exact hp.bits⟩
    have hadv := encPackByte_advances (hroom.of_eq he.inLen he.sizeW) (he.encReady h) hpt (by rw [hset]; exact he.room)
    rw [hset, he.inLen, hsym, hleft] at hadv
    exact hadv

theorem encPad_advances {s : State} (hroom : Room s) (h : EncReady s) : Advances 1 (encPad s) := by
  obtain ⟨hinput, hleast⟩ := hroom
  have hbits := h.bits_le
  have hused := h.used
  have hlen := h.ob.len
  obtain ⟨hw1, hw2, -⟩ := (obWritten_iff _).1 h.ob.written
  refine .after (needs_of_written (by simpa [Work.isWritten] using ⟨h.written.2, hw1, hw2⟩)) ?_
  simp only
  refine .after (fit_of_lt (show _ < 2 ^ s.sizeW by omega)) ?_
  split
  · exact .ends ..
  · have hi : s.work.bitsSet.value / 8 < s.work.obCap.value := by omega
    obtain ⟨old, hold⟩ := outRead_ready h.ob hi
    obtain ⟨m, hm, -⟩ := outWrite_ready h.ob hi (old ||| padByte (s.work.bitsSet.value % 8))
    exact .after hold (.after hm (.ends ..))

/-! ### The decoder's steps (R211 to R223) -/

theorem dtBuild_mem (s : State) : (dtBuild s).2.mem = s.mem := by
  unfold dtBuild
  split
  · rfl
  · split <;> rw [reqTable_frame]

/-- A build that returns `DONE` leaves a built table (R140, R143). -/
theorem dtBuild_built {s : State} (h : (dtBuild s).1 = .done) : (dtBuild s).2.dtValid = true := by
  unfold dtBuild at h ⊢
  split at h
  · rw [if_pos ‹_›]; assumption
  · split at h
    · rw [if_neg ‹_›, if_pos ‹_›]
    · cases h

/-- The operands of a decode stay while the operand registers and the regions do. -/
theorem DecInput.of_frame {s t : State} (h : DecInput s) (hf : CoreFrame s t) (hm : t.mem = s.mem) : DecInput t := by
  obtain ⟨hi, ho⟩ := h
  refine ⟨?_, ?_⟩
  · unfold InputLive; rw [hf.inLen, hf.inPtr, hm]; exact hi
  · rw [hf.outPtr, hf.inPtr, hf.outCap, hf.sizeW, hm]; exact ho

theorem decInit_advances {s : State} (h : DecInput s) : Advances (16 * s.inLen + 4) (.ok (decInit s)) := by
  have hf := (dtBuild_move s).toCoreFrame
  unfold decInit
  split
  · rename_i hd
    refine .goes (t := (dtBuild s).2.withPhase .decStart) ⟨?_, dtBuild_built hd⟩ ?_
    · exact h.of_frame (hf.trans {}) (dtBuild_mem s)
    · show 16 * (dtBuild s).2.inLen + 3 < _
      rw [hf.inLen]; omega
  · exact .ends ..

theorem DecReady.withPhase {s : State} (h : DecReady s) (p : Phase) : DecReady (s.withPhase p) where
  ob := h.ob.congr
  inc := h.inc
  zero := h.zero
  built := h.built
  input := h.input
  written := h.written
  total := h.total
  done := h.done
  pos := h.pos
  len := h.len

/-- The loop of R210 goes on in `SCANNING` while bits remain, else the terminator is next. -/
theorem loop_advances {n : Nat} {s : State} (h : DecReady s)
    (hn : 2 * (s.work.bitsTotal.value - s.work.bitsDone.value) + 2 < n) :
    Advances n (.ok (s.withPhase (loopPhase s.work.bitsDone.value s.work.bitsTotal.value))) := by
  obtain ⟨hlt, hl⟩ | hl := loopPhase_cases s.work.bitsDone.value s.work.bitsTotal.value
  · rw [hl]
    exact .goes (t := s.withPhase .scanning) ⟨h.withPhase .scanning, hlt⟩ hn
  · rw [hl]
    exact .goes (t := s.withPhase .term) (h.withPhase .term) (show 1 < n by omega)

/-- `DEC.START` has its region, and the loop begins (R210, R212). -/
theorem decCounters_advances {s : State} (hroom : Room s) (hob : ObReady s) (hlen : s.work.obLen.value = 0)
    (hinc : s.work.obInc.value = decInc) (hzero : s.work.obZero.value = 0) (hbuilt : s.dtValid = true)
    (hin : s.inLen = 0 ∨ (InputLive s ∧ s.work.obPtr.value ≠ s.inPtr)) :
    Advances (16 * s.inLen + 3) (decCounters s) := by
  obtain ⟨hinput, hleast⟩ := hroom
  refine .after (fit_of_lt (show 8 * s.inLen < 2 ^ s.sizeW by omega)) ?_
  refine loop_advances (s := s.withWork _) ?_ (show 2 * (8 * s.inLen - 0) + 2 < _ by omega)
  exact {
    ob := hob.congr
    inc := hinc
    zero := hzero
    built := hbuilt
    input := hin
    written := ⟨rfl, rfl, rfl⟩
    total := rfl
    done := Nat.zero_le _
    pos := Nat.zero_le _
    len := hlen }

theorem decStart_advances {s : State} (hroom : Room s) (h : DecInput s) (hbuilt : s.dtValid = true) :
    Advances (16 * s.inLen + 3) (decStart s) := by
  obtain ⟨hinput, hleast⟩ := id hroom
  refine .after (fit_of_lt (show decInc < 2 ^ s.sizeW by unfold decInc; omega)) ?_
  split
  · refine .after (fit_of_lt (show 2 * s.inLen < 2 ^ s.sizeW by omega)) ?_
    obtain hf | ⟨hd, hob⟩ := obAlloc_obtained (2 * s.inLen) decInc false s
    · simp only [hf]; exact .ends ..
    · simp only [hd]
      have hadv := decCounters_advances (hroom.of_eq hob.inLen hob.sizeW) hob.ob
        (congrArg WReg.value hob.obLen) (congrArg WReg.value hob.obInc) (congrArg WReg.value hob.obZero)
        (hob.dtValid.trans hbuilt) (h.input.imp (hob.inLen.trans ·) hob.input)
      rw [hob.inLen] at hadv
      exact hadv
  · rename_i hne
    obtain hnull | ⟨hapart, -, r, hr, hg, hc⟩ := h.supplied
    · exact absurd hnull hne
    · exact decCounters_advances (s := obAdopt s.outPtr s.outCap decInc false s) ⟨hinput, hleast⟩
        ⟨(obWritten_iff _).2 ⟨rfl, rfl, rfl, rfl, rfl⟩, hne, ⟨r, hr, hg, hc⟩, Nat.zero_le _⟩ rfl rfl rfl hbuilt
        (h.input.imp_right fun hl => ⟨hl, hapart⟩)

/-- The input of a decode is readable (R62, R302). -/
theorem DecReady.scanReady {s : State} (h : DecReady s) : scanReady s = .ok () := by
  have hread : inputReadable s = true := by
    obtain h0 | ⟨⟨r, hr, hcap⟩, -⟩ := h.input
    · simp [inputReadable, h0]
    · simp [inputReadable, hr, hcap]
  unfold Machine.scanReady
  rw [bind_of_ok (needs_of_written (by simpa [Work.isWritten] using ⟨h.written.1, h.written.2.1⟩)), if_pos h.built,
    if_pos hread]

/-- The entry a scan finds: at the index it stops at, not that of `EOS`, and within the bits left (R214). -/
theorem scanFrom_found {win : Nat → Nat} {remaining k0 k : Nat} {l : List CodeEntry}
    (h : scanFrom win remaining k0 l = .found k) :
    ∃ e, k0 ≤ k ∧ l[k - k0]? = some e ∧ e.symbol.toNat ≠ eosSymbol ∧ e.length.toNat ≤ remaining := by
  induction l generalizing k0 with
  | nil => cases h
  | cons e es ih =>
    unfold scanFrom at h
    split at h
    · cases h
    · split at h
      · cases h
      · split at h
        · split at h
          · cases h
          · cases h
            exact ⟨e, le_rfl, by simp, ‹_›, by omega⟩
        · obtain ⟨e', hk, hget, hrest⟩ := ih h
          refine ⟨e', by omega, ?_, hrest⟩
          rw [show k - k0 = (k - (k0 + 1)) + 1 by omega, List.getElem?_cons_succ]
          exact hget

/-- An entry of a built table is one of `ROM` (R146 (a)). -/
theorem mem_rom_of_dt {s : State} (hdt : DtSound s) (hb : s.dtValid = true) {k : Nat} {e : CodeEntry}
    (h : s.dt[k]? = some e) : e ∈ s.rom := by
  rw [hdt hb] at h
  exact (mem_sortByLength e _).1 (List.mem_of_getElem? h)

/-- A symbol of a well-formed table is one of 0 to 256 (R100). -/
theorem symbol_le_of_mem {rom : List CodeEntry} (h : Wf1 rom) {e : CodeEntry} (he : e ∈ rom) :
    e.symbol.toNat ≤ eosSymbol := by
  obtain ⟨i, hi⟩ := List.mem_iff_getElem?.1 he
  obtain ⟨hlt, -⟩ := List.getElem?_eq_some_iff.1 hi
  rw [h.2 i e hi]
  have := h.1
  unfold nsym at this
  unfold eosSymbol
  omega

/-- Only `SCAN_K` and the latch of the model change in a scan. -/
theorem DecReady.scanned {s : State} (h : DecReady s) (k : WReg (BitVec 9)) (r : Ret) (p : Phase) :
    DecReady (((s.withWork { s.work with scanK := k }).withRet r).withPhase p) where
  ob := h.ob.congr
  inc := h.inc
  zero := h.zero
  built := h.built
  input := h.input
  written := h.written
  total := h.total
  done := h.done
  pos := h.pos
  len := h.len

theorem decScan_advances {s : State} (hrom : RomWf s.rom) (hdt : DtSound s) (h : DecReady s)
    (hlt : s.work.bitsDone.value < s.work.bitsTotal.value) :
    Advances (2 * (s.work.bitsTotal.value - s.work.bitsDone.value) + 2) (decScan s) := by
  obtain ⟨hw1, hw2, -⟩ := (obWritten_iff _).1 h.ob.written
  refine .after h.scanReady ?_
  simp only
  split
  · rename_i k hk
    obtain ⟨e, -, hget, hsym, hlen⟩ := scanFrom_found hk
    rw [Nat.sub_zero, List.getElem?_take] at hget
    split at hget
    · rename_i hk257
      have hke : (BitVec.ofNat 9 k).toNat = k := by
        rw [BitVec.toNat_ofNat]; unfold nsym at hk257; omega
      have hle := symbol_le_of_mem hrom.wf1 (mem_rom_of_dt hdt h.built hget)
      refine .goes (t := State.withPhase _ .emit) ⟨h.scanned _ _ _, rfl, e, ?_, ?_, ?_⟩ ?_
      · show s.dt[(BitVec.ofNat 9 (scanIndex (scanResult s))).toNat]? = some e
        rw [hk, scanIndex, hke, hget]
      · unfold eosSymbol at hsym hle; omega
      · show s.work.bitsDone.value + e.length.toNat ≤ s.work.bitsTotal.value
        omega
      · show 2 * (s.work.bitsTotal.value - s.work.bitsDone.value) + 1 < _
        omega
    · cases hget
  · exact .after (needs_of_written (by simpa [Work.isWritten] using ⟨hw1, h.written.2.2, hw2⟩)) (.ends ..)
  · exact .goes (t := State.withPhase _ .term) (h.scanned _ _ .term) (show 1 < _ by omega)

theorem Ensured.decReady {s t : State} (ht : Ensured s.work.outPos.value s t) (h : DecReady s) : DecReady t := by
  refine ⟨ht.ob, ?_, ?_, ht.dtValid.trans h.built, ?_, ?_, ?_, ?_, ?_, ?_⟩
  case refine_3 => exact h.input.imp (ht.inLen.trans ·) fun hi => ht.input hi.1 hi.2
  all_goals rw [ht.work]
  · exact h.inc
  · exact h.zero
  · exact h.written
  · rw [ht.inLen]; exact h.total
  · exact h.done
  · exact h.pos
  · exact h.len

/-- The next byte of a decode is ensured, or denied with the regions as they were (R167, R171). -/
theorem DecReady.ensure {s : State} (hroom : Room s) (h : DecReady s) :
    (∃ t, obEnsure s.work.outPos.value s = .ok (.fail, t) ∧ t.work = s.work) ∨
      ∃ t, obEnsure s.work.outPos.value s = .ok (.done, t) ∧ Ensured s.work.outPos.value s t := by
  obtain ⟨hinput, hleast⟩ := hroom
  have htotal := h.total
  have hdone := h.done
  have hpos := h.pos
  obtain ⟨t, ht, -, hwork⟩ | he := obEnsure_ready (idx := s.work.outPos.value) h.ob (h.len ▸ le_rfl)
    (by rw [h.inc]; decide) (fun hc => by rw [h.inc]; unfold decInc; omega)
  · exact .inl ⟨t, ht, hwork⟩
  · exact .inr he

theorem decNoMemory_advances {n : Nat} {s t : State} (h : DecReady s) (ht : t.work = s.work) :
    Advances n (decNoMemory t) := by
  obtain ⟨hw1, hw2, -⟩ := (obWritten_iff _).1 h.ob.written
  exact .after (needs_of_written (by simpa [Work.isWritten, ht] using ⟨hw1, h.written.2.2, hw2⟩)) (.ends ..)

theorem decEmitByte_advances {s : State} (hroom : Room s) (h : DecReady s) {e : CodeEntry} (hmin : 5 ≤ e.length.toNat)
    (hfits : s.work.bitsDone.value + e.length.toNat ≤ s.work.bitsTotal.value)
    (hi : s.work.outPos.value < s.work.obCap.value) :
    Advances (2 * (s.work.bitsTotal.value - s.work.bitsDone.value) + 1) (decEmitByte e s) := by
  obtain ⟨hinput, hleast⟩ := hroom
  have htotal := h.total
  have hpos := h.pos
  obtain ⟨hw1, -⟩ := (obWritten_iff _).1 h.ob.written
  obtain ⟨m, hm, hsame⟩ := outWrite_ready h.ob hi (BitVec.ofNat 8 e.symbol.toNat)
  refine .after (needs_of_written (by simpa [Work.isWritten] using ⟨hw1, h.written.1, h.written.2.1⟩)) ?_
  simp only
  refine .after hm (.after (fit_of_lt (show _ < 2 ^ s.sizeW by omega))
    (.after (fit_of_lt (show _ < 2 ^ s.sizeW by omega)) ?_))
  refine loop_advances (s := (s.withMem m).withWork _) ?_
    (show 2 * (s.work.bitsTotal.value - (s.work.bitsDone.value + e.length.toNat)) + 2 < _ by omega)
  exact {
    ob := h.ob.update hsame rfl hi
    inc := h.inc
    zero := h.zero
    built := h.built
    input := h.input.imp_right fun hl => ⟨hl.1.of_sameRegions hsame, hl.2⟩
    written := ⟨rfl, h.written.2.1, rfl⟩
    total := htotal
    done := hfits
    pos := show 5 * (s.work.outPos.value + 1) ≤ s.work.bitsDone.value + e.length.toNat by omega
    len := rfl }

theorem emitFound_advances {s : State} (hrom : RomWf s.rom) (hdt : DtSound s) (hroom : Room s) (h : DecReady s)
    (hk : s.work.scanK.written = true) {e : CodeEntry} (hget : s.dt[s.work.scanK.value.toNat]? = some e)
    (hsym : e.symbol.toNat ≤ 255) (hfits : s.work.bitsDone.value + e.length.toNat ≤ s.work.bitsTotal.value) :
    Advances (2 * (s.work.bitsTotal.value - s.work.bitsDone.value) + 1) (emitFound s) := by
  obtain ⟨hmin, -⟩ := hrom.wf2 e (mem_rom_of_dt hdt h.built hget)
  refine .after (needs_of_written (by simpa [Work.isWritten] using hk))
    (.after (show dtAt s _ = .ok e by simp [dtAt, h.built, hget]) ?_)
  rw [if_neg (by omega)]
  refine .after (needs_of_written (by simpa [Work.isWritten] using h.written.2.2)) ?_
  obtain ⟨t, ht, hwork⟩ | ⟨t, ht, he⟩ := h.ensure hroom
  · exact .after ht (decNoMemory_advances h hwork)
  · refine .after ht ?_
    have hdone : t.work.bitsDone = s.work.bitsDone := by rw [he.work]
    have htotal : t.work.bitsTotal = s.work.bitsTotal := by rw [he.work]
    have hpos : t.work.outPos = s.work.outPos := by rw [he.work]
    have hadv := decEmitByte_advances (hroom.of_eq he.inLen he.sizeW) (he.decReady h) hmin
      (by rw [hdone, htotal]; exact hfits) (by rw [hpos]; exact he.room)
    rw [hdone, htotal] at hadv
    exact hadv

theorem decTerm_advances {s : State} (hroom : Room s) (h : DecReady s) : Advances 1 (decTerm s) := by
  refine .after (needs_of_written (by simpa [Work.isWritten] using h.written.2.2)) ?_
  obtain ⟨t, ht, hwork⟩ | ⟨t, ht, he⟩ := h.ensure hroom
  · exact .after ht (decNoMemory_advances h hwork)
  · refine .after ht ?_
    have hpos : t.work.outPos = s.work.outPos := by rw [he.work]
    obtain ⟨hw1, hw2, -⟩ := (obWritten_iff _).1 he.ob.written
    obtain ⟨m, hm, -⟩ := outWrite_ready he.ob (i := t.work.outPos.value) (by rw [hpos]; exact he.room) 0
    exact .after (needs_of_written (by simpa [Work.isWritten] using ⟨hw1, hw2⟩)) (.after hm (.ends ..))

/-! ### A command in its invariant ends (R38, R192, R232) -/

theorem prewarmBuild_ended (s : State) : Ended (prewarmBuild s) := by
  unfold prewarmBuild
  split <;> exact endCommand_ended ..

/-- A command in its invariant takes a step, whatever PHASE names, and has fewer steps left. -/
theorem coreStep_advances {s : State} (h : CommandInv s) : Advances (stepsLeft s) (coreStep s) := by
  obtain ⟨⟨hrom, hdt, -, hfits⟩, -, hrange, hphase⟩ := h
  have hroom := room_of_range hfits.width hrange
  unfold PhaseInv at hphase
  unfold stepsLeft coreStep
  cases hp : s.phase <;> simp only [hp] at hphase ⊢
  case build => exact ⟨_, rfl, .inl (prewarmBuild_ended s)⟩
  case encAlloc => exact encAlloc_advances hroom hphase.1
  case encFetch => exact encFetch_advances hrom hroom hphase
  case encPack => exact encPack_advances hroom hphase.1 hphase.2
  case encPad => exact encPad_advances hroom hphase.1
  case decInit => exact decInit_advances hphase
  case decStart => exact decStart_advances hroom hphase.1 hphase.2
  case scanning => exact decScan_advances hrom hdt hphase.1 hphase.2
  case emit =>
    obtain ⟨hready, hk, e, hget, hsym, hlen⟩ := hphase
    exact emitFound_advances hrom hdt hroom hready hk hget hsym hlen
  case term => exact decTerm_advances hroom hphase

/-- A move of CORE that keeps the table keeps a sound state sound. -/
theorem Sound.of_move {s t : State} (h : Sound s) (hm : CoreMove s t) (ht : TableMove s t) : Sound t :=
  ⟨hm.rom ▸ h.rom, ht.dtSound h.dt, hm.wf h.mem, hm.fits h.fits⟩

/-- The step of a command in its invariant: its invariant again with fewer steps left, or the end. -/
theorem CommandInv.step {s : State} (h : CommandInv s) :
    ∃ t, coreStep s = .ok t ∧ Sound t ∧ (Ended t ∨ (CommandInv t ∧ stepsLeft t < stepsLeft s)) := by
  obtain ⟨t, ht, hcase⟩ := coreStep_advances h
  have hm := coreStep_move ht
  have hb := coreStep_moves ht
  have hsound := h.sound.of_move hm hb.toTableMove
  refine ⟨t, ht, hsound, hcase.imp_right fun ⟨hinv, hless⟩ => ⟨⟨hsound, ?_, ?_, hinv⟩, hless⟩⟩
  · have hne : t.phase ≠ .idle := fun hi => by simp [PhaseInv, hi] at hinv
    simp [hb.busy, h.busy, hne]
  · rw [hm.inLen, hm.sizeW]; exact h.range

theorem CommandInv.stepsLeft_pos {s : State} (h : CommandInv s) : 0 < stepsLeft s := by
  have hphase := h.phase
  unfold PhaseInv at hphase
  unfold stepsLeft
  cases hp : s.phase <;> simp only [hp] at hphase ⊢ <;> omega

/-- The steps of CORE reach the end of the command within the bound. -/
theorem untilIdle_ends {n : Nat} {s : State} (h : Ended s ∨ (CommandInv s ∧ stepsLeft s ≤ n)) :
    ∃ t, untilIdle n s = .ok t ∧ Ended t := by
  induction n generalizing s with
  | zero =>
    obtain he | ⟨hinv, hle⟩ := h
    · exact ⟨s, by simp [untilIdle, he.busy], he⟩
    · exact absurd hinv.stepsLeft_pos (by omega)
  | succ n ih =>
    obtain he | ⟨hinv, hle⟩ := h
    · exact ⟨s, by simp [untilIdle, he.busy], he⟩
    · obtain ⟨u, hu, -, hcase⟩ := hinv.step
      obtain ⟨t, ht, hend⟩ := ih (hcase.imp_right fun ⟨hi, hless⟩ => ⟨hi, by omega⟩)
      exact ⟨t, by simp [untilIdle, hinv.busy, hu, ht], hend⟩

/-! ### An admitted command begins in its invariant (R40, R96, R302, R304, R305) -/

/-- All that the admission of a command checks (R96, R300, R302, R304, R305). -/
theorem admission_none {c : Command} {s : State} (h : admission c s = none) :
    inRange c s = true ∧ s.busy = false ∧ inputDuty c s = true ∧ outputDuty c s = true ∧ apartDuty c s = true := by
  unfold admission at h
  split at h
  · cases h
  · split at h
    · cases h
    · split at h
      · cases h
      · split at h
        · cases h
        · split at h
          · cases h
          · simp_all

/-- HOST's duty for an input of at least one byte (R302). -/
theorem inputLive_of_readable {s : State} (h : inputReadable s = true) : s.inLen = 0 ∨ InputLive s := by
  unfold inputReadable at h
  rw [Bool.or_eq_true] at h
  obtain h0 | hr := h
  · exact .inl (by simpa using h0)
  · split at hr
    · rename_i r hget; exact .inr ⟨r, hget, by simpa using hr⟩
    · cases hr

/-- An admitted decode has the operands `DecInput` names. -/
theorem decInput_of_admission {s : State} (h : admission .decode s = none) : DecInput s := by
  obtain ⟨hrange, -, hin, hout, hapart⟩ := admission_none h
  refine ⟨inputLive_of_readable hin, ?_⟩
  by_cases hnull : s.outPtr = nullHandle
  · exact .inl hnull
  · simp only [inRange, outputDuty, apartDuty, hnull, Bool.and_eq_true, Bool.or_eq_true, beq_iff_eq, false_or,
      decide_eq_true_eq, bne_iff_ne] at hrange hout hapart
    split at hout
    · rename_i r hget
      simp only [Bool.and_eq_true, decide_eq_true_eq] at hout
      exact .inr ⟨hapart, hrange.2, r, hget, hout⟩
    · cases hout

/-- A command admitted in a sound state begins in its invariant, within the bound on its steps, or ends at once. -/
theorem accept_inv {c : Command} {s : State} (hs : Sound s) (ha : admission c s = none) :
    Ended (accept c s) ∨ (CommandInv (accept c s) ∧ stepsLeft (accept c s) ≤ stepBound s) := by
  obtain ⟨hrange, -, hin, -, -⟩ := admission_none ha
  have hlen : s.inLen < 2 ^ (s.sizeW - 6) := by
    unfold inRange at hrange
    simp only [Bool.and_eq_true, decide_eq_true_eq] at hrange
    exact hrange.1
  have hsound := hs.of_move (accept_move c s) (accept_tableMove c s)
  have hbegin : ∀ p, accept c s = beginCommand p s → PhaseInv (beginCommand p s) → CommandInv (accept c s) :=
    fun p hp hinv => ⟨hsound, by rw [hp]; rfl, by rw [hp]; exact hlen, hp ▸ hinv⟩
  cases c with
  | prewarm =>
    by_cases hv : s.dtValid = true
    · exact .inl (by simp only [accept, if_pos hv]; exact endCommand_ended ..)
    · have hp : accept .prewarm s = beginCommand .build s := by simp only [accept, if_neg hv]
      refine .inr ⟨hbegin .build hp (by simpa [PhaseInv] using hv), ?_⟩
      rw [hp]; show 1 ≤ stepBound s; unfold stepBound; omega
  | encode =>
    by_cases hn : s.inPtr = nullHandle ∨ s.inLen = 0
    · exact .inl (by simp only [accept, if_pos hn]; exact endCommand_ended ..)
    · have hp : accept .encode s = beginCommand .encAlloc s := by simp only [accept, if_neg hn]
      obtain ⟨hptr, h0⟩ := not_or.1 hn
      have hlive : InputLive s := by
        simp only [inputDuty, Bool.or_eq_true, beq_iff_eq, hptr, false_or] at hin
        exact (inputLive_of_readable hin).resolve_left h0
      refine .inr ⟨hbegin .encAlloc hp ⟨hlive, hptr, h0⟩, ?_⟩
      rw [hp]; show 31 * s.inLen + 3 ≤ stepBound s; unfold stepBound; omega
  | decode =>
    refine .inr ⟨hbegin .decInit rfl ((decInput_of_admission ha).of_frame {} rfl), ?_⟩
    show 16 * s.inLen + 4 ≤ stepBound s; unfold stepBound; omega

/-! ### Reads of working registers that are not written (R25, U11) -/

/-- A run stops at a read of a register that the command in progress has not written. -/
def StopsUnwritten {α : Type} (s : State) (x : Except Fault α) : Prop :=
  ∃ r, s.work.isWritten r = false ∧ x = .error (.unwrittenRegister r)

/-- An instruction faults at such a read. -/
def FaultsUnwritten (s : State) (i : Instr) : Prop :=
  ∃ r, s.work.isWritten r = false ∧ exec i s = .fault (.unwrittenRegister r)

/-- A check of registers passes when all are written, and stops at one that is not. -/
theorem needs_cases (s : State) (rs : List WName) :
    (needs s rs = .ok () ∧ ∀ r ∈ rs, s.work.isWritten r = true) ∨ StopsUnwritten s (needs s rs) := by
  cases hn : needs s rs with
  | ok u => exact .inl ⟨rfl, (needs_ok_iff s rs).1 hn⟩
  | error f =>
    unfold needs at hn
    split at hn
    · rename_i r hr
      cases hn
      exact .inr ⟨r, by simpa using List.find?_some hr, rfl⟩
    · cases hn

/-- What is in one list of registers and not in another is in the rest. -/
theorem mem_rest {x : WName} {l m k : List WName} (hx : x ∈ l) (hn : x ∉ m)
    (h : ∀ y ∈ l, y ∈ m ∨ y ∈ k := by decide) : x ∈ k :=
  (h x hx).resolve_left hn

section
variable {α β : Type} {s : State} {x : WName} {rs : List WName}

theorem StopsUnwritten.bind {y : Except Fault α} (h : StopsUnwritten s y) (f : α → Except Fault β) :
    StopsUnwritten s (y >>= f) := by
  obtain ⟨r, hr, rfl⟩ := h
  exact ⟨r, hr, rfl⟩

/-- With a register not written, a check stops or the register is not among those it names. -/
theorem stops_after_needs {f : Unit → Except Fault α} (hu : s.work.isWritten x = false)
    (hk : x ∉ rs → StopsUnwritten s (f ())) : StopsUnwritten s (needs s rs >>= f) := by
  obtain ⟨hok, hw⟩ | hs := needs_cases s rs
  · rw [bind_of_ok hok]
    exact hk fun hx => by rw [hw x hx] at hu; cases hu
  · exact hs.bind f

/-- A check that names a register not written stops. -/
theorem stops_at_needs {f : Unit → Except Fault α} (hu : s.work.isWritten x = false) (hx : x ∈ rs) :
    StopsUnwritten s (needs s rs >>= f) :=
  stops_after_needs hu fun hn => absurd hx hn

theorem obGrow_stops (hu : s.work.isWritten x = false) (hx : x ∈ [WName.obPtr, .obCap, .obInc, .obZero]) :
    StopsUnwritten s (obGrow s) := stops_at_needs hu hx

/-- `OB.ENSURE` stops at the capacity, or in a growth, or goes on below the capacity. -/
theorem stops_after_ensure {idx : Nat} {f : Ob × State → Except Fault α} (hu : s.work.isWritten x = false)
    (hgrow : s.work.obCap.value ≤ idx → x ∈ [WName.obPtr, .obCap, .obInc, .obZero])
    (hk : x ∉ [WName.obCap] → idx < s.work.obCap.value → StopsUnwritten s (f (.done, s))) :
    StopsUnwritten s (obEnsure idx s >>= f) := by
  unfold obEnsure
  obtain ⟨hok, hw⟩ | hs := needs_cases s [.obCap]
  · rw [bind_of_ok hok]
    split
    · exact (obGrow_stops hu (hgrow ‹_›)).bind f
    · exact hk (fun hx => by rw [hw x hx] at hu; cases hu) (by omega)
  · exact (hs.bind _).bind f

theorem obEnsure_stops {idx : Nat} (hu : s.work.isWritten x = false)
    (hx : x ∈ [WName.obCap] ∨ (s.work.obCap.value ≤ idx ∧ x ∈ [WName.obPtr, .obInc, .obZero])) :
    StopsUnwritten s (obEnsure idx s) := by
  unfold obEnsure
  refine stops_after_needs hu fun hn => ?_
  obtain hx | ⟨hc, hx⟩ := hx
  · exact absurd hx hn
  · rw [if_pos hc]
    exact obGrow_stops hu ((by decide : [WName.obPtr, .obInc, .obZero] ⊆ _) hx)

theorem encPack_stops (hu : s.work.isWritten x = false) (hx : x ∈ [WName.bitsSet, .bitsLeft, .curCode, .obCap, .obPtr] ∨
    (s.work.obCap.value ≤ s.work.bitsSet.value / 8 ∧ x ∈ [WName.obInc, .obZero])) : StopsUnwritten s (encPack s) := by
  unfold encPack
  refine stops_after_needs hu fun hn => ?_
  replace hx : x ∈ [WName.obCap, .obPtr] ∨ _ := hx.imp_left (mem_rest · hn)
  refine stops_after_ensure hu (fun _ => ?_) fun hcap hlt => stops_at_needs hu (rs := [.obPtr]) ?_
  · exact hx.elim (fun h => (by decide : [WName.obCap, .obPtr] ⊆ _) h)
      fun h => (by decide : [WName.obInc, .obZero] ⊆ _) h.2
  · exact mem_rest (hx.resolve_right fun h => by omega) hcap

theorem decScan_stops {k : Nat} (hu : s.work.isWritten x = false) (hr : scanReady s = .ok ())
    (hk : scanResult s = .internal k) (hx : x ∈ [WName.obPtr, .outPos, .obCap]) : StopsUnwritten s (decScan s) := by
  unfold decScan
  rw [bind_of_ok hr]
  simp only [hk]
  exact stops_at_needs hu hx

theorem decEmit_stops {k : Nat} {e : CodeEntry} (hu : s.work.isWritten x = false) (hv : s.dtValid = true)
    (he : s.dt[k]? = some e) (hsym : e.symbol.toNat ≤ 255) (hx : x ∈ [WName.outPos, .obCap, .obPtr] ∨
      (s.work.outPos.value < s.work.obCap.value ∧ x ∈ [WName.bitsDone, .bitsTotal]) ∨
      (s.work.obCap.value ≤ s.work.outPos.value ∧ x ∈ [WName.obInc, .obZero])) : StopsUnwritten s (decEmit k s) := by
  unfold decEmit
  rw [bind_of_ok (show dtAt s k = .ok e by simp [dtAt, hv, he]), if_neg (by omega)]
  refine stops_after_needs hu fun hn => ?_
  replace hx : x ∈ [WName.obCap, .obPtr] ∨ _ := hx.imp_left (mem_rest · hn)
  refine stops_after_ensure hu (fun hle => ?_) fun hcap hlt =>
    stops_at_needs hu (rs := [.obPtr, .bitsDone, .bitsTotal]) ?_
  · obtain hx | ⟨hlt, -⟩ | ⟨-, hx⟩ := hx
    · exact (by decide : [WName.obCap, .obPtr] ⊆ _) hx
    · omega
    · exact (by decide : [WName.obInc, .obZero] ⊆ _) hx
  · obtain hx | ⟨-, hx⟩ | ⟨hle, -⟩ := hx
    · exact mem_rest hx hcap
    · exact (by decide : [WName.bitsDone, .bitsTotal] ⊆ _) hx
    · omega

theorem decTerm_stops (hu : s.work.isWritten x = false) (hx : x ∈ [WName.outPos, .obCap, .obPtr] ∨
    (s.work.obCap.value ≤ s.work.outPos.value ∧ x ∈ [WName.obInc, .obZero])) : StopsUnwritten s (decTerm s) := by
  unfold decTerm
  refine stops_after_needs hu fun hn => ?_
  replace hx : x ∈ [WName.obCap, .obPtr] ∨ _ := hx.imp_left (mem_rest · hn)
  refine stops_after_ensure hu (fun _ => ?_) fun hcap hlt => stops_at_needs hu (rs := [.obPtr, .obCap]) ?_
  · exact hx.elim (fun h => (by decide : [WName.obCap, .obPtr] ⊆ _) h)
      fun h => (by decide : [WName.obInc, .obZero] ⊆ _) h.2
  · exact mem_rest (hx.resolve_right fun h => by omega) hcap

end

/-- An instruction that is a run faults where the run stops. -/
theorem StopsUnwritten.faults {s : State} {i : Instr} {y : Except Fault State} (h : StopsUnwritten s y)
    (hi : exec i s = ofRun y := by rfl) : FaultsUnwritten s i := by
  obtain ⟨r, hr, rfl⟩ := h
  exact ⟨r, hr, hi⟩

/-- So does one that latches `DONE` or `FAIL`. -/
theorem StopsUnwritten.faultsOb {s : State} {i : Instr} {y : Except Fault (Ob × State)} (h : StopsUnwritten s y)
    (hi : exec i s = ofOb y := by rfl) : FaultsUnwritten s i := by
  obtain ⟨r, hr, rfl⟩ := h
  exact ⟨r, hr, hi⟩

theorem obRelease_faults {s : State} {x : WName} (hu : s.work.isWritten x = false) (hx : x ∈ [WName.obPtr]) :
    FaultsUnwritten s .obRelease := by
  obtain ⟨r, hr, h⟩ : StopsUnwritten s (obRelease s) := stops_at_needs hu hx
  exact ⟨r, hr, by show execObRelease s = _; simp [execObRelease, h]⟩

theorem decWindow_faults {s : State} {x : WName} {len : BitVec 6} (h1 : 1 ≤ len.toNat) (h32 : len.toNat ≤ 32)
    (hu : s.work.isWritten x = false) (hx : x ∈ [WName.bitsDone]) : FaultsUnwritten s (.decWindow len) := by
  obtain ⟨-, hw⟩ | ⟨r, hr, h⟩ := needs_cases s [.bitsDone]
  · rw [hw x hx] at hu; cases hu
  · refine ⟨r, hr, ?_⟩
    show execDecWindow len s = _
    unfold execDecWindow
    rw [if_neg (by unfold windowMax; omega), h]

/-- The step of CORE in PHASE `EMIT` reads `SCAN_K` first (R210). -/
theorem stepCore_emit_unwritten {s : State} (hp : s.phase = .emit) (hk : s.work.scanK.written = false) :
    stepCore s = .fault (.unwrittenRegister .scanK) := by
  have hn : needs s [.scanK] = .error (.unwrittenRegister .scanK) := by simp [needs, Work.isWritten, hk]
  simp [stepCore, coreInstr, hp, hn]

/-- A code row reads `DT` (R23, U5). -/
theorem exec_code_dtAbsent {i : Instr} {n : Nat} {s : State} (hi : i.symbol? = some n) (hv : s.dtValid = false) :
    exec i s = .fault .dtAbsent := by
  rw [exec_of_symbol hi]
  simp [codePass, hv]

theorem exec_decEmit_dtAbsent {s : State} (hv : s.dtValid = false) (k : BitVec 9) :
    exec (.decEmit k) s = .fault .dtAbsent := by
  have h : decEmit k.toNat s = .error .dtAbsent := by
    unfold decEmit dtAt
    rw [if_neg (by simp [hv])]
    rfl
  show ofRun (decEmit k.toNat s) = _
  rw [h, ofRun_error]

theorem exec_decScan_dtAbsent {s : State} (hv : s.dtValid = false) (hd : s.work.bitsDone.written = true)
    (ht : s.work.bitsTotal.written = true) : exec .decScan s = .fault .dtAbsent := by
  have h : decScan s = .error .dtAbsent := by
    unfold decScan scanReady
    rw [bind_of_ok (needs_of_written (by simpa [Work.isWritten] using ⟨hd, ht⟩)), if_neg (by simp [hv])]
    rfl
  show ofRun (decScan s) = _
  rw [h, ofRun_error]

/-! ### Reset -/

/-- `State.reset` is sound (R55). -/
theorem reset_sound : Sound State.reset where
  rom := romH2_wf
  dt := fun h => by cases h
  mem := ⟨.nil, by simp [State.reset]⟩
  fits := ⟨by decide, by decide, by decide, fun r hr => by cases hr⟩

theorem reset_unwritten (r : WName) : State.reset.work.isWritten r = false := by cases r <;> rfl

/-! ### HOST's reads -/

/-- The bits of `STATUS` (R41). -/
theorem statusWord_bits (s : State) : (statusWord s).testBit 0 = s.busy ∧ (statusWord s).testBit 1 = s.dtValid ∧
    ∀ i, 2 ≤ i → (statusWord s).testBit i = false := by
  have hlt : statusWord s < 4 := by unfold statusWord flagWord; cases s.dtValid <;> cases s.busy <;> decide
  refine ⟨?_, ?_, fun i hi => Nat.testBit_lt_two_pow (lt_of_lt_of_le hlt (show 2 ^ 2 ≤ 2 ^ i from ?_))⟩
  · unfold statusWord flagWord; cases s.dtValid <;> cases s.busy <;> decide
  · unfold statusWord flagWord; cases s.dtValid <;> cases s.busy <;> decide
  · exact Nat.pow_le_pow_right (by decide) hi

/-- A result register read while `BUSY` = 0 gives its content (R46 to R50). -/
theorem readResult_idle {s : State} (hb : s.busy = false) (v : Nat) : readResult v s = s.withHostData v :=
  if_neg (by simp [hb])

/-- While `BUSY` = 1 it gives a free value of `SIZE_W` bits (R50, U12). -/
theorem readResult_busy {s : State} (hb : s.busy = true) (v : Nat) :
    ∃ d : Nat, d < 2 ^ s.sizeW ∧ readResult v s = { s with hostData := d, freeNext := s.freeNext + 1 } :=
  ⟨(Config.freeBits s.sizeW s.freeNext).toNat, (Config.freeBits s.sizeW s.freeNext).isLt, if_pos hb⟩

/-- Registers 6 to 9 are the result registers (R46 to R49). -/
theorem hostRead_result {n : Nat} (h6 : 6 ≤ n) (h9 : n ≤ 9) (s : State) :
    ∃ v, hostRead n s = .next (readResult v s) := by
  interval_cases n <;> exact ⟨_, rfl⟩

/-- A read of a register above 9 is refused (R50). -/
theorem hostRead_noSuchRegister {n : Nat} (hn : 10 ≤ n) (s : State) : hostRead n s = .refused (.noSuchRegister n) := by
  unfold hostRead
  split
  case h_11 => rfl
  all_goals omega

end Sys2Proof.Machine

open Sys2Proof Sys2Proof.Machine

/-- Settles O12: whatever a step does to the table keeps it sound (`TableMove.dtSound`), and a reset drops it. -/
theorem stepKeepsDtSound : Obligations.StepKeepsDtSound := by
  intro s t hs h
  obtain hm | ⟨-, rest, hr⟩ := step_engineMove h
  · exact hm.dtSound hs
  · obtain ⟨-, rfl⟩ := hostReset_next hr
    intro hv
    cases hv

/-- Settles O17: each step of CORE sets `BUSY` with PHASE (`MovesFrom`), and HOST's actions touch neither but by a command or
a reset. -/
theorem stepKeepsBusyWithPhase : Obligations.StepKeepsBusyWithPhase := by
  intro s t hs h
  obtain hm | ⟨-, rest, hr⟩ := step_engineMove h
  · exact hm.busyPhase hs
  · obtain ⟨-, rfl⟩ := hostReset_next hr
    exact ⟨fun _ => rfl, fun _ => rfl⟩

/-- Settles O13 from what a step does to the table (`TableMove`); a reset leaves it absent. -/
theorem romAndBuiltTablePersist : Obligations.RomAndBuiltTablePersist := by
  intro s t h
  obtain hm | ⟨hag, rest, hr⟩ := step_engineMove h
  · exact ⟨hm.sizeW, hm.rom, fun hv => .inl (hm.built hv), hm.requested⟩
  · obtain ⟨-, rfl⟩ := hostReset_next hr
    exact ⟨rfl, rfl, fun _ => .inr ⟨hag, rfl⟩, fun _ hv => by cases hv⟩

/-- Settles O18, micro-operation by micro-operation (`coreStep_moves`). -/
theorem phaseMovesOnlyAsTabled : Obligations.PhaseMovesOnlyAsTabled := by
  refine ⟨fun s t h => (coreStep_moves h).phase, fun c s => ?_, fun s hp => by simp [coreStep, hp]⟩
  obtain h | ⟨p, h, hp⟩ := accept_cases c s
  · rw [h]; rfl
  · rcases hp with rfl | rfl | rfl <;> rw [h] <;> rfl

/-- Settles O23: the dispatch runs the step of the sequencer, PHASE by PHASE. -/
theorem coreStepRunsTheInstructionOfItsPhase : Obligations.CoreStepRunsTheInstructionOfItsPhase :=
  stepCore_eq_coreStep

/-- Settles O19: in each PHASE the step goes on (`coreStep_advances`), to the end or to the invariant again. -/
theorem commandInvIsKept : Obligations.CommandInvIsKept := by
  intro s h
  obtain ⟨t, ht, hsound, hcase⟩ := h.step
  exact ⟨t, by rw [stepCore_eq_coreStep, ht, ofRun_ok], hsound,
    hcase.imp (fun he => ⟨he.busy, he.phase⟩) And.left⟩

/-- Settles O20: HOST's duties are the premises of the first PHASE (`accept_inv`). -/
theorem acceptedCommandMeetsTheInvariant : Obligations.AcceptedCommandMeetsTheInvariant := by
  intro c s hs ha
  exact (accept_inv hs ha).symm.imp And.left fun he => ⟨he.busy, he.phase⟩

/-- Settles O21, by induction on the steps left (`untilIdle_ends`), of which the bound allows enough. -/
theorem everyAdmittedCommandCompletes : Obligations.EveryAdmittedCommandCompletes := by
  refine fun s hs => ⟨fun c ha => ?_, rfl, rfl, rfl⟩
  obtain ⟨t, ht, hend⟩ := untilIdle_ends (accept_inv hs ha)
  have hrun : runCommand c s = .next t := by simp [runCommand, ha, ht]
  have hm := runCommand_move hrun
  exact ⟨t, hrun, hs.of_move hm (runCommand_engineMove hrun).toTableMove, hend.busy, hend.phase, hm.inPtr, hm.inLen,
    hm.outPtr, hm.outCap, hend.unwritten⟩

/-- Settles O14 from the reset state itself; it is sound because `ROM_H2` is well formed (`romH2_wf`). -/
theorem resetStateIsAsStated : Obligations.ResetStateIsAsStated :=
  ⟨rfl, rfl, rfl, rfl, rfl, rfl, rfl, rfl, rfl, rfl, rfl, rfl, rfl, rfl, reset_unwritten, reset_sound.mem, reset_sound.dt,
    ⟨fun _ => rfl, fun _ => rfl⟩, reset_sound⟩

/-- Settles O15: the step takes the reset off the agenda, and `BUSY` decides. -/
theorem resetActionRestoresTheResetValues : Obligations.ResetActionRestoresTheResetValues := by
  intro s rest
  rw [step_action (by simp)]
  refine ⟨fun hb => ⟨_, if_neg (by simp [hb]), ?_⟩, fun hb => if_pos hb⟩
  exact ⟨rfl, rfl, rfl, rfl, rfl, rfl, rfl, rfl, rfl, rfl, rfl, rfl, rfl, rfl, rfl, rfl, rfl, reset_unwritten⟩

/-- Settles O28: each check of registers stops at one that is not written (`needs_cases`), and nothing that could stop
otherwise comes before it. -/
theorem unwrittenRegisterReadFaults : Obligations.UnwrittenRegisterReadFaults := by
  intro s faults reads
  refine ⟨fun x hx hu => (stops_at_needs hu hx : StopsUnwritten s (encFetch s)).faults,
    fun x hx hu => (encPack_stops hu (.inl hx)).faults,
    fun hle x hx hu => (encPack_stops hu (.inr ⟨hle, hx⟩)).faults,
    fun x hx hu => (stops_at_needs hu hx : StopsUnwritten s (encPad s)).faults,
    fun x hx hu => StopsUnwritten.faults (y := decScan s) ((stops_at_needs hu hx).bind _),
    fun k hr hk x hx hu => (decScan_stops hu hr hk hx).faults,
    fun len h1 h32 x hx hu => decWindow_faults h1 h32 hu hx,
    fun k e hv he hsym => ⟨fun x hx hu => (decEmit_stops hu hv he hsym (.inl hx)).faults,
      fun hlt x hx hu => (decEmit_stops hu hv he hsym (.inr (.inl ⟨hlt, hx⟩))).faults,
      fun hle x hx hu => (decEmit_stops hu hv he hsym (.inr (.inr ⟨hle, hx⟩))).faults⟩,
    fun x hx hu => (decTerm_stops hu (.inl hx)).faults,
    fun hle x hx hu => (decTerm_stops hu (.inr ⟨hle, hx⟩)).faults,
    fun idx => ⟨fun x hx hu => (obEnsure_stops hu (.inl hx)).faultsOb,
      fun hle x hx hu => (obEnsure_stops hu (.inr ⟨hle, hx⟩)).faultsOb⟩,
    fun x hx hu => (obGrow_stops hu hx).faultsOb,
    fun x hx hu => obRelease_faults hu hx,
    stepCore_emit_unwritten,
    fun hv => ⟨exec_decEmit_dtAbsent hv, fun i n hi => exec_code_dtAbsent hi hv, exec_decScan_dtAbsent hv⟩⟩

/-- Settles O59, register by register. -/
theorem hostReadsTheRegisters : Obligations.HostReadsTheRegisters := by
  refine ⟨fun s => rfl, fun s => ⟨statusWord s, rfl, statusWord_bits s⟩, rfl, fun s => ⟨rfl, rfl, rfl, rfl⟩,
    fun s hb => ?_, fun s n hb h6 h9 => ?_, fun s n hn => hostRead_noSuchRegister hn s, fun s n rest => step_action (by simp) s rest⟩
  · simp only [hostRead, readResult_idle hb]
    exact ⟨rfl, rfl, rfl, rfl⟩
  · obtain ⟨v, hv⟩ := hostRead_result h6 h9 s
    obtain ⟨d, hd, hr⟩ := readResult_busy hb v
    exact ⟨d, hd, by rw [hv, hr]⟩
end

section
/-! PROOFS, family 20_memory: bytes of regions and accesses outside R62, the bits of the stream, what a command does to the
regions, and the ends of ENCODE and DECODE as invariants of their steps. -/

namespace Sys2Proof.Machine

open Sys2Proof

/-! ### Bytes of regions (R60, R62) -/

/-- A byte reads exactly where the region is live and the offset below its capacity (R62). -/
theorem readByte_isSome_iff (m : Memory) (h i : Nat) :
    (readByte m h i).isSome = true ↔ ∃ r, regionGet m h = some r ∧ i < r.cap := by
  unfold readByte
  split
  · simp_all
  · split <;> simp_all

theorem readByte_of_regionGet {m : Memory} {h i : Nat} {r : Region} (hr : regionGet m h = some r) (hi : i < r.cap) :
    readByte m h i = some (r.byteAt i) := by
  simp [readByte, hr, hi]

/-- The bytes of a region are its own: where the same region stands, the same bytes read. -/
theorem readByte_congr {m m' : Memory} {g : Nat} (h : regionGet m' g = regionGet m g) (i : Nat) :
    readByte m' g i = readByte m g i := by
  simp [readByte, h]

/-- Where a byte cannot be read it cannot be written (R62). -/
theorem writeByte_of_unreadable {m : Memory} {h i : Nat} (hr : readByte m h i = none) (b : Byte) :
    writeByte m h i b = none := by
  rw [← Option.not_isSome_iff_eq_none, writeByte_isSome, hr]; simp

/-! ### Accesses of CORE outside R62 -/

theorem inRead_of_unreadable {s : State} {i : Nat} (h : readByte s.mem s.inPtr i = none) :
    inRead s i = .error (.access s.inPtr i) := by
  simp [inRead, h]

theorem outRead_of_unreadable {s : State} {i : Nat} (h : readByte s.mem s.work.obPtr.value i = none) :
    outRead s i = .error (.access s.work.obPtr.value i) := by
  simp [outRead, h]

theorem outWrite_of_unreadable {s : State} {i : Nat} (h : readByte s.mem s.work.obPtr.value i = none) (b : Byte) :
    outWrite s i b = .error (.access s.work.obPtr.value i) := by
  simp [outWrite, writeByte_of_unreadable h]

/-- A run whose first part faults faults. -/
theorem bind_of_error {α β : Type} {x : Except Fault α} {e : Fault} (h : x = .error e) (f : α → Except Fault β) :
    (x >>= f) = .error e := by
  rw [h]; rfl

/-- `ENC.FETCH` of an input byte outside R62 faults. -/
theorem encFetch_of_unreadable {s : State} (hw : s.work.symIdx.written = true) (hne : s.work.symIdx.value ≠ s.inLen)
    (h : readByte s.mem s.inPtr s.work.symIdx.value = none) :
    encFetch s = .error (.access s.inPtr s.work.symIdx.value) := by
  unfold encFetch
  rw [bind_of_ok (needs_of_written (by simpa [Work.isWritten] using hw))]
  simp only [if_neg hne]
  exact bind_of_error (inRead_of_unreadable h) _

/-- Below the capacity `OB.ENSURE` is no step of its own (R167). -/
theorem obEnsure_below {idx : Nat} {s : State} (hw : s.work.obCap.written = true) (h : idx < s.work.obCap.value) :
    obEnsure idx s = .ok (.done, s) := by
  unfold obEnsure
  rw [bind_of_ok (needs_of_written (by simpa [Work.isWritten] using hw)), if_neg (by omega)]

/-- `DEC.TERM` at an offset outside R62 faults. -/
theorem decTerm_of_unreadable {s : State} (hptr : s.work.obPtr.written = true) (hcap : s.work.obCap.written = true)
    (hpos : s.work.outPos.written = true) (hlt : s.work.outPos.value < s.work.obCap.value)
    (h : readByte s.mem s.work.obPtr.value s.work.outPos.value = none) :
    decTerm s = .error (.access s.work.obPtr.value s.work.outPos.value) := by
  unfold decTerm
  rw [bind_of_ok (needs_of_written (by simpa [Work.isWritten] using hpos)), bind_of_ok (obEnsure_below hcap hlt)]
  show decTermByte s = _
  unfold decTermByte
  rw [bind_of_ok (needs_of_written (by simpa [Work.isWritten] using ⟨hptr, hcap⟩))]
  exact bind_of_error (outWrite_of_unreadable h 0) _

/-! ### HOST keeps off the regions in use (R75) -/

/-- The regions of a command in progress are in use. -/
theorem inUse_of_command {s : State} {h : Nat} (hb : s.busy = true) (hc : (s.inPtr = h ∧ s.phase ≠ .build) ∨
    (s.work.obPtr.written = true ∧ s.work.obPtr.value = h) ∨ (decoding s.phase = true ∧ s.outPtr = h)) :
    inUse s h = true := by
  obtain ⟨rfl, hp⟩ | ⟨hw, rfl⟩ | ⟨hd, rfl⟩ := hc
  · simp [inUse, inputInUse, hb, hp]
  · simp [inUse, outputInUse, hb, hw]
  · simp [inUse, outputInUse, hb, hd]

/-! ### Stream bits, bit by bit (R10, R64) -/

/-- Bit `k` of a number read from the stream: its most significant bit is the first one of the stream (R10). -/
theorem testBit_streamBits (B : Nat → Byte) (p n k : Nat) :
    (streamBits B p n).testBit k = (decide (k < n) && streamBit B (p + (n - 1 - k))) := by
  induction n generalizing k with
  | zero => simp [streamBits]
  | succ n ih =>
    have hbit := (streamBit B (p + n)).toNat_lt
    have hsucc : streamBits B p (n + 1) = 2 * streamBits B p n + (streamBit B (p + n)).toNat := rfl
    cases k with
    | zero =>
      have hodd : streamBits B p (n + 1) % 2 = (streamBit B (p + n)).toNat := by omega
      rw [Nat.testBit_zero, hodd]
      cases hb : streamBit B (p + n) <;> simp [hb]
    | succ k =>
      have hhalf : streamBits B p (n + 1) / 2 = streamBits B p n := by omega
      rw [Nat.testBit_succ, hhalf, ih, show n + 1 - 1 - (k + 1) = n - 1 - k by omega]
      simp

/-- The bits of the stream in their order are those of a number of as many bits. -/
theorem streamBits_eq_of_bits {B : Nat → Byte} {p n v : Nat} (hv : v < 2 ^ n)
    (h : ∀ k, k < n → streamBit B (p + k) = v.testBit (n - 1 - k)) : streamBits B p n = v := by
  refine Nat.eq_of_testBit_eq fun k => ?_
  rw [testBit_streamBits]
  by_cases hk : k < n
  · rw [h _ (by omega), show n - 1 - (n - 1 - k) = k by omega]
    simp [hk]
  · rw [Nat.testBit_lt_two_pow (lt_of_lt_of_le hv (Nat.pow_le_pow_right (by decide) (by omega)))]
    simp [hk]

/-- Streams that agree on the bits read give the same number. -/
theorem streamBits_congr {B B' : Nat → Byte} {p n : Nat} (h : ∀ q, p ≤ q → q < p + n → streamBit B q = streamBit B' q) :
    streamBits B p n = streamBits B' p n := by
  refine Nat.eq_of_testBit_eq fun k => ?_
  rw [testBit_streamBits, testBit_streamBits]
  by_cases hk : k < n
  · rw [h _ (by omega) (by omega)]
  · simp [hk]

/-- The first bits of a longer number (R103). -/
theorem streamBits_shiftRight (B : Nat → Byte) (p : Nat) {m n : Nat} (h : m ≤ n) :
    streamBits B p n >>> (n - m) = streamBits B p m := by
  refine Nat.eq_of_testBit_eq fun k => ?_
  rw [Nat.testBit_shiftRight, testBit_streamBits, testBit_streamBits, show n - 1 - (n - m + k) = m - 1 - k by omega,
    show decide (n - m + k < n) = decide (k < m) from decide_eq_decide.2 (by omega)]

/-- Bytes of the stream, the lowest offset most significant, are its bits (R64). -/
theorem testBit_bigEndian (B : Nat → Byte) (b n k : Nat) :
    (bigEndian B b n).testBit k = (decide (k < 8 * n) && streamBit B (8 * b + (8 * n - 1 - k))) := by
  induction n generalizing k with
  | zero => simp [bigEndian]
  | succ n ih =>
    unfold bigEndian
    rw [show 256 * bigEndian B b n = 2 ^ 8 * bigEndian B b n from rfl, Nat.testBit_two_pow_mul_add _ (B (b + n)).isLt]
    split
    · rename_i hk
      rw [← BitVec.getLsbD, streamBit, show (8 * b + (8 * (n + 1) - 1 - k)) / 8 = b + n by omega,
        show 7 - (8 * b + (8 * (n + 1) - 1 - k)) % 8 = k by omega]
      simp [show k < 8 * (n + 1) by omega]
    · rw [ih, show 8 * b + (8 * n - 1 - (k - 8)) = 8 * b + (8 * (n + 1) - 1 - k) by omega,
        show decide (k - 8 < 8 * n) = decide (k < 8 * (n + 1)) from decide_eq_decide.2 (by omega)]

/-- `DEC.WINDOW` is the stream bits at the current offset, for every length up to 32 (R215, R216). -/
theorem window_eq_streamBits (B : Nat → Byte) (p : Nat) {len : Nat} (h : len ≤ 32) :
    window B p len = streamBits B p len := by
  obtain ⟨nb, hw, hone, hlen⟩ : ∃ nb, windowWidth len = 8 * nb ∧ 1 ≤ nb ∧ len ≤ 8 * nb := by
    unfold windowWidth
    split
    · exact ⟨1, rfl, by omega, by omega⟩
    · split
      · exact ⟨2, rfl, by omega, by omega⟩
      · exact ⟨4, rfl, by omega, by omega⟩
  refine Nat.eq_of_testBit_eq fun k => ?_
  simp only [window, hw, Nat.mul_div_cancel_left nb (by decide : 0 < 8), Nat.testBit_shiftRight, Nat.testBit_or,
    Nat.testBit_mod_two_pow, Nat.testBit_shiftLeft, testBit_bigEndian, testBit_streamBits]
  have hp := Nat.div_add_mod p 8
  have hr := Nat.mod_lt p (by decide : 0 < 8)
  generalize p % 8 = r at *
  generalize p / 8 = b at *
  by_cases hk : k < len
  · by_cases hj : r ≤ 8 * nb - len + k
    · rw [show 8 * b + (8 * nb - 1 - (8 * nb - len + k - r)) = p + (len - 1 - k) by omega]
      simp [hk, hj, show 8 * nb - len + k < 8 * nb by omega, show 8 * nb - len + k - r < 8 * nb by omega,
        show ¬ 8 * nb - r + (8 * nb - len + k) < 8 * nb by omega]
    · rw [show 8 * (b + nb) + (8 * nb - 1 - (8 * nb - r + (8 * nb - len + k))) = p + (len - 1 - k) by omega]
      simp [hk, hj, show 8 * nb - r + (8 * nb - len + k) < 8 * nb by omega]
  · simp [hk, show ¬ 8 * nb - len + k < 8 * nb by omega, show ¬ 8 * nb - r + (8 * nb - len + k) < 8 * nb by omega]

/-- A byte whose eight stream bits are 0 is 0. -/
theorem byte_eq_zero_of_bits {B : Nat → Byte} {i : Nat} (h : ∀ q, q / 8 = i → streamBit B q = false) : B i = 0 := by
  refine BitVec.eq_of_getLsbD_eq fun k hk => ?_
  have hq := h (8 * i + (7 - k)) (by omega)
  rw [streamBit, show (8 * i + (7 - k)) / 8 = i by omega, show 7 - (8 * i + (7 - k)) % 8 = k by omega] at hq
  simpa using hq

/-! ### One byte of the stream changed -/

/-- The stream with the bits `v` set in byte `i` besides those it holds. -/
def orByte (B : Nat → Byte) (i : Nat) (v : Byte) : Nat → Byte := fun j => if j = i then B i ||| v else B j

theorem streamBit_orByte (B : Nat → Byte) (i : Nat) (v : Byte) (q : Nat) :
    streamBit (orByte B i v) q = (streamBit B q || (decide (q / 8 = i) && v.getLsbD (7 - q % 8))) := by
  unfold streamBit orByte
  split
  · rename_i hq; simp [hq]
  · rename_i hq; simp [hq]

/-- The bits a pass of `ENC.PACK` writes, in stream order: the `packCount` most significant ones still to write (R185). -/
theorem getLsbD_packByte {code pos left q : Nat} (hq : q / 8 = pos / 8) :
    (packByte code pos left).getLsbD (7 - q % 8) =
      (decide (pos ≤ q ∧ q < pos + packCount pos left) && code.testBit (left - 1 - (q - pos))) := by
  have hle : packCount pos left ≤ left := Nat.min_le_right _ _
  have hfree : packCount pos left ≤ packFree pos := Nat.min_le_left _ _
  unfold packByte
  simp only [BitVec.getLsbD_ofNat, Nat.testBit_shiftLeft, Nat.testBit_mod_two_pow, Nat.testBit_shiftRight]
  generalize packCount pos left = n at *
  unfold packFree at *
  by_cases hin : pos ≤ q ∧ q < pos + n
  · rw [show left - n + (7 - q % 8 - (8 - pos % 8 - n)) = left - 1 - (q - pos) by omega]
    simp [hin, show 7 - q % 8 < 8 by omega, show 8 - pos % 8 - n ≤ 7 - q % 8 by omega,
      show 7 - q % 8 - (8 - pos % 8 - n) < n by omega]
  · by_cases hk : 8 - pos % 8 - n ≤ 7 - q % 8
    · simp [hin, show ¬ 7 - q % 8 - (8 - pos % 8 - n) < n by omega]
    · simp [hin, hk]

/-- The padding sets the bits from the first unused one to the end of the byte (R186). -/
theorem getLsbD_padByte {pos q : Nat} (hq : q / 8 = pos / 8) :
    (padByte (pos % 8)).getLsbD (7 - q % 8) = decide (pos ≤ q) := by
  unfold padByte
  rw [BitVec.getLsbD_ofNat, Nat.testBit_two_pow_sub_one]
  simp only [show 7 - q % 8 < 8 by omega, decide_true, Bool.true_and]
  exact decide_eq_decide.2 (by omega)

/-! ### The content of a region (R60, R161, R162) -/

theorem isLive_eq_false_iff (m : Memory) (h : Nat) : isLive m h = false ↔ regionGet m h = none := by
  simp [isLive]

/-- No region is live under `NULL` (D7). -/
theorem regionGet_null {m : Memory} (hm : Memory.wf m) : regionGet m nullHandle = none := by
  cases hr : regionGet m nullHandle with
  | none => rfl
  | some r => exact absurd (regionGet_handle hr) (hm.2 r (regionGet_mem hr)).1

theorem readByte_eq_regionByte {m : Memory} {h i : Nat} {r : Region} (hr : regionGet m h = some r) (hi : i < r.cap) :
    readByte m h i = some (regionByte m h i) := by
  simp [regionByte, readByte_of_regionGet hr hi]

theorem regionByte_of_readByte {m : Memory} {h i : Nat} {b : Byte} (hr : readByte m h i = some b) :
    regionByte m h i = b := by
  simp [regionByte, hr]

/-- Past the capacity there is no byte. -/
theorem regionByte_past {m : Memory} {h i : Nat} {r : Region} (hr : regionGet m h = some r) (hi : r.cap ≤ i) :
    regionByte m h i = 0 := by
  simp [regionByte, readByte, hr, Nat.not_lt.2 hi]

theorem regionByte_congr {m m' : Memory} {g : Nat} (h : regionGet m' g = regionGet m g) :
    regionByte m' g = regionByte m g :=
  funext fun i => by simp [regionByte, readByte_congr h]

/-- A write that sets bits in a byte of a region. -/
theorem regionByte_writeByte_or {m m' : Memory} {h i : Nat} {old v : Byte} (hr : readByte m h i = some old)
    (hw : writeByte m h i (old ||| v) = some m') : regionByte m' h = orByte (regionByte m h) i v := by
  funext j
  unfold orByte
  split
  · rename_i hj
    rw [hj, regionByte_of_readByte hr, regionByte_of_readByte (readByte_writeByte_same hw)]
  · rename_i hj
    simp [regionByte, readByte_writeByte_other hw (g := h) (j := j) (by simp [hj])]

theorem cellGet_append (cs ds : List Host.Cell) (i : Nat) :
    cellGet (cs ++ ds) i = (cellGet cs i).or (cellGet ds i) := by
  induction cs with
  | nil => simp [cellGet]
  | cons c cs ih =>
    obtain ⟨a, b⟩ := c
    simp only [List.cons_append, cellGet, ih]
    split <;> simp

/-- Where no byte is listed there is none. -/
theorem cellGet_eq_none {cs : List Host.Cell} {i : Nat} (h : ∀ c ∈ cs, c.1 ≠ i) : cellGet cs i = none := by
  induction cs with
  | nil => rfl
  | cons c cs ih =>
    obtain ⟨a, b⟩ := c
    rw [cellGet, if_neg (h (a, b) (by simp)), ih fun d hd => h d (List.mem_cons_of_mem _ hd)]

/-- A byte listed is the byte of one of the cells. -/
theorem mem_of_cellGet {cs : List Host.Cell} {i : Nat} {b : Byte} (h : cellGet cs i = some b) : (i, b) ∈ cs := by
  induction cs with
  | nil => cases h
  | cons c cs ih =>
    obtain ⟨a, x⟩ := c
    unfold cellGet at h
    split at h
    · rename_i ha; cases h; subst ha; simp
    · exact List.mem_cons_of_mem _ (ih h)

theorem cellGet_zeroCells {a b i : Nat} (ha : a ≤ i) (hb : i < b) : cellGet (zeroCells a b) i = some 0 := by
  cases hc : cellGet (zeroCells a b) i with
  | some x => exact congrArg some (zeroCells_fst (mem_of_cellGet hc)).2.2
  | none =>
    exfalso
    have hmem : (i, (0 : Byte)) ∈ zeroCells a b := by
      simp only [zeroCells, List.mem_map, List.mem_range'_1]
      exact ⟨i, ⟨ha, by omega⟩, rfl⟩
    generalize zeroCells a b = cs at hc hmem
    induction cs with
    | nil => cases hmem
    | cons c cs ih =>
      obtain ⟨x, y⟩ := c
      unfold cellGet at hc
      split at hc
      · cases hc
      · rename_i hx
        obtain h | h := List.mem_cons.1 hmem
        · cases h; exact hx rfl
        · exact ih hc h

/-- A region granted with zero fill reads as zeros (R161). -/
theorem byteAt_newRegion_zero {h size seed i : Nat} (hi : i < size) : (newRegion h size true seed).byteAt i = 0 := by
  simp [Region.byteAt, newRegion, cellGet_zeroCells (Nat.zero_le i) hi]

theorem regionByte_newRegion_zero (m : Memory) (g size seed i : Nat) :
    regionByte (regionPut m (newRegion g size true seed)) g i = 0 := by
  have hself : regionGet (regionPut m (newRegion g size true seed)) g = some (newRegion g size true seed) :=
    regionGet_regionPut_same m (newRegion g size true seed)
  by_cases hi : i < size
  · rw [regionByte_of_readByte (readByte_of_regionGet hself hi), byteAt_newRegion_zero hi]
  · exact regionByte_past hself (Nat.not_lt.1 hi)

/-- Growth keeps the bytes below the old capacity (R162). -/
theorem byteAt_grownRegion_below {r : Region} {i : Nat} (h size : Nat) (zero : Bool) (hi : i < r.cap) :
    (grownRegion r h size zero).byteAt i = r.byteAt i := by
  have hnone : cellGet (zeroCells r.cap size) i = none :=
    cellGet_eq_none fun c hc => by have := (zeroCells_fst hc).1; omega
  cases zero with
  | false => rfl
  | true => simp [Region.byteAt, grownRegion, cellGet_append, hnone]

/-- With zero fill the added bytes are zeros (R162). -/
theorem byteAt_grownRegion_above {r : Region} {i size : Nat} (h : Nat) (hr : Region.wf r) (hi : r.cap ≤ i)
    (hs : i < size) : (grownRegion r h size true).byteAt i = 0 := by
  have hnone : cellGet r.cells i = none :=
    cellGet_eq_none fun c hc => by have := hr.2.2 c hc; omega
  simp [Region.byteAt, grownRegion, cellGet_append, hnone, cellGet_zeroCells hi hs]

/-- The regions after `GROW` of the region `r` under `h` is granted with the handle `g` (R162, `reqGrow_cases`). -/
def grownMemory (m : Memory) (h : Nat) (r : Region) (g size : Nat) (zero : Bool) : Memory :=
  regionPut (regionDrop m h) (grownRegion r g size zero)

theorem regionGet_grownMemory_same (m : Memory) (h : Nat) (r : Region) (g size : Nat) (zero : Bool) :
    regionGet (grownMemory m h r g size zero) g = some (grownRegion r g size zero) :=
  regionGet_regionPut_same _ (grownRegion r g size zero)

theorem regionGet_grownMemory_other (m : Memory) (h : Nat) (r : Region) {g x : Nat} (size : Nat) (zero : Bool) (hx : x ≠ g) :
    regionGet (grownMemory m h r g size zero) x = if x = h then none else regionGet m x := by
  unfold grownMemory
  rw [regionGet_regionPut_other _ (grownRegion r g size zero) hx]
  split
  · rename_i hxh; rw [hxh, regionGet_regionDrop_same]
  · exact regionGet_regionDrop_other _ ‹_›

theorem readByte_grownMemory_below {m : Memory} {h : Nat} {r : Region} (hr : regionGet m h = some r) (g : Nat) {size i : Nat}
    (zero : Bool) (hs : r.cap < size) (hi : i < r.cap) : readByte (grownMemory m h r g size zero) g i = readByte m h i := by
  rw [readByte_of_regionGet (regionGet_grownMemory_same ..) (show i < size by omega), readByte_of_regionGet hr hi,
    byteAt_grownRegion_below g size zero hi]

/-- A growth with zero fill does not change what `regionByte` reads, 0 past the capacity among it. -/
theorem regionByte_grownMemory_zero {m : Memory} {h : Nat} {r : Region} (hm : Memory.wf m) (hr : regionGet m h = some r)
    (g : Nat) {size : Nat} (hs : r.cap < size) : regionByte (grownMemory m h r g size true) g = regionByte m h := by
  funext i
  have hself := regionGet_grownMemory_same m h r g size true
  by_cases hi : i < r.cap
  · simp only [regionByte, readByte_grownMemory_below hr g true hs hi]
  · rw [regionByte_past hr (Nat.not_lt.1 hi)]
    by_cases his : i < size
    · rw [regionByte_of_readByte (readByte_of_regionGet hself his),
        byteAt_grownRegion_above g (hm.2 r (regionGet_mem hr)) (Nat.not_lt.1 hi) his]
    · exact regionByte_past hself (Nat.not_lt.1 his)

/-! ### What no micro-operation of an encoder, and none of a decoder past its build, writes (R63, R195, R229) -/

/-- From `s` to `t` nothing is written that CORE never writes, what HOST holds among it. -/
structure RunFrame (s t : State) : Prop extends CoreFrame s t where
  hostData : t.hostData = s.hostData := by rfl

theorem RunFrame.trans {s t u : State} (h : RunFrame s t) (h' : RunFrame t u) : RunFrame s u where
  toCoreFrame := h.toCoreFrame.trans h'.toCoreFrame
  hostData := h'.hostData.trans h.hostData

/-- Nor is the table. -/
structure Untouched (s t : State) : Prop extends RunFrame s t where
  dt : t.dt = s.dt := by rfl
  dtValid : t.dtValid = s.dtValid := by rfl

theorem Untouched.trans {s t u : State} (h : Untouched s t) (h' : Untouched t u) : Untouched s u where
  toRunFrame := h.toRunFrame.trans h'.toRunFrame
  dt := h'.dt.trans h.dt
  dtValid := h'.dtValid.trans h.dtValid

theorem endCommand_untouched (k : Kind) (ptr len cap : Nat) (s : State) : Untouched s (endCommand k ptr len cap s) := {}

theorem beginCommand_untouched (p : Phase) (s : State) : Untouched s (beginCommand p s) := {}

theorem reqAlloc_untouched (size : Nat) (zero : Bool) (s : State) : Untouched s (reqAlloc size zero s).2 := by
  rw [reqAlloc_frame]; exact {}

theorem reqGrow_untouched (h size : Nat) (zero : Bool) (s : State) : Untouched s (reqGrow h size zero s).2 := by
  rw [reqGrow_frame]; exact {}

theorem reqTable_untouched (s : State) : Untouched s (reqTable s).2 := by
  rw [reqTable_frame]; exact {}

theorem obAlloc_untouched (size inc : Nat) (zero : Bool) (s : State) : Untouched s (obAlloc size inc zero s).2 := by
  have hu := reqAlloc_untouched size zero s
  unfold obAlloc
  split <;> exact hu.trans {}

theorem obGrow_untouched {s t : State} {r : Ob} (h : obGrow s = .ok (r, t)) : Untouched s t := by
  obtain ⟨size, -, -, ⟨-, -, rfl⟩ | ⟨g, -, -, rfl⟩⟩ := obGrow_ok h
  · exact reqGrow_untouched ..
  · exact (reqGrow_untouched ..).trans {}

theorem obEnsure_untouched {idx : Nat} {s t : State} {r : Ob} (h : obEnsure idx s = .ok (r, t)) : Untouched s t := by
  obtain ⟨-, -, rfl⟩ | ⟨-, hg⟩ := obEnsure_ok h
  · exact {}
  · exact obGrow_untouched hg

/-! ### The output region is the only one a command changes -/

/-- From the regions `m₀` a command started with to `m`, the output region is `h`: the supplied region `sup`, or one that was not
live; and every other region is as it was, but `sup` where it is gone. (`sup` is `NULL` where none is supplied.) -/
structure OnlyOutput (m₀ : Memory) (sup : Nat) (m : Memory) (h : Nat) : Prop where
  origin : h = sup ∨ regionGet m₀ h = none
  others : ∀ g, g ≠ h → regionGet m g = regionGet m₀ g ∨ (g = sup ∧ regionGet m g = none)

/-- A region live before that is neither the supplied one stays (R63). -/
theorem OnlyOutput.kept {m₀ m : Memory} {sup h g : Nat} (ho : OnlyOutput m₀ sup m h) (hlive : isLive m₀ g = true)
    (hg : g ≠ sup) : regionGet m g = regionGet m₀ g := by
  obtain ⟨r, hr⟩ := (isLive_iff _ _).1 hlive
  have hne : g ≠ h := by
    rintro rfl
    obtain hs | hn := ho.origin
    · exact hg hs
    · rw [hn] at hr; cases hr
  exact (ho.others g hne).resolve_right fun h => hg h.1

/-- No region appears but the output region. -/
theorem OnlyOutput.live {m₀ m : Memory} {sup h g : Nat} (ho : OnlyOutput m₀ sup m h) (hg : g ≠ h)
    (hlive : isLive m g = true) : isLive m₀ g = true := by
  obtain he | ⟨-, hn⟩ := ho.others g hg
  · unfold isLive at *; rwa [← he]
  · simp [isLive, hn] at hlive

/-- Where no region is supplied every other region is as it was. -/
theorem OnlyOutput.same {m₀ m : Memory} {h g : Nat} (hm : Memory.wf m₀) (ho : OnlyOutput m₀ nullHandle m h) (hg : g ≠ h) :
    regionGet m g = regionGet m₀ g := by
  obtain he | ⟨rfl, hn⟩ := ho.others g hg
  · exact he
  · rw [hn, regionGet_null hm]

/-- The output region may change in its bytes. -/
theorem OnlyOutput.write {m₀ m m' : Memory} {sup h i : Nat} {b : Byte} (ho : OnlyOutput m₀ sup m h)
    (hw : writeByte m h i b = some m') : OnlyOutput m₀ sup m' h := by
  obtain ⟨-, -, -, -, -, hsame⟩ := writeByte_cases hw
  exact ⟨ho.origin, fun g hg => by rw [hsame g hg]; exact ho.others g hg⟩

/-- A region from ALLOCATOR has a counterpart of the same capacity. -/
theorem SameRegions.granted {m m' : Memory} (h : SameRegions m m') {g c : Nat}
    (hr : ∃ r, regionGet m g = some r ∧ r.granted = true ∧ r.cap = c) :
    ∃ r, regionGet m' g = some r ∧ r.granted = true ∧ r.cap = c := by
  obtain ⟨r, hr, hg, hc⟩ := hr
  obtain ⟨r', hr', hc', hg'⟩ := h.get hr
  exact ⟨r', hr', hg'.trans hg, hc'.trans hc⟩

/-- The region of `OB_PTR` in `s` is that of `OB_PTR` in `t`, perhaps larger, with its
bytes; the rest of the regions stays (R162, R168). -/
structure OutputKept (s t : State) : Prop where
  fresh : t.work.obPtr.value = s.work.obPtr.value ∨ regionGet s.mem t.work.obPtr.value = none
  others : ∀ g, g ≠ t.work.obPtr.value →
    regionGet t.mem g = if g = s.work.obPtr.value then none else regionGet s.mem g
  bytes : ∀ i, i < s.work.obCap.value → readByte t.mem t.work.obPtr.value i = readByte s.mem s.work.obPtr.value i
  zeros : s.work.obZero.value = 1 → regionByte t.mem t.work.obPtr.value = regionByte s.mem s.work.obPtr.value

theorem OutputKept.refl (s : State) : OutputKept s s where
  fresh := .inl rfl
  others _ hg := by rw [if_neg hg]
  bytes _ _ := rfl
  zeros _ := rfl

/-- The output region may move in a growth. -/
theorem OnlyOutput.grow {m₀ : Memory} {sup : Nat} {s t : State} (ho : OnlyOutput m₀ sup s.mem s.work.obPtr.value)
    (hk : OutputKept s t) : OnlyOutput m₀ sup t.mem t.work.obPtr.value where
  origin := by
    by_cases heq : t.work.obPtr.value = s.work.obPtr.value
    · rw [heq]; exact ho.origin
    · have hnone := hk.fresh.resolve_left heq
      obtain he | ⟨hs, -⟩ := ho.others _ heq
      · exact .inr (he ▸ hnone)
      · exact .inl hs
  others g hg := by
    rw [hk.others g hg]
    split
    · rename_i hgs
      subst hgs
      obtain hs | hn := ho.origin
      · exact .inr ⟨hs, rfl⟩
      · exact .inl hn.symm
    · exact ho.others g ‹_›

/-- A growth that is granted keeps the region's bytes, and adds zeros where `OB_ZERO` asks for them (R162, R168). -/
theorem obGrow_kept {s t : State} (hm : Memory.wf s.mem) (hob : ObReady s) (h : obGrow s = .ok (.done, t)) :
    OutputKept s t := by
  obtain ⟨size, -, hgrow, ⟨hr, -⟩ | ⟨g, -, hg, rfl⟩⟩ := obGrow_ok h
  · cases hr
  obtain ⟨hn, -⟩ | ⟨g', r, hg', hr, hl, hmem⟩ := reqGrow_cases s.work.obPtr.value size (obZeroFlag s) s
  · rw [hn] at hg; cases hg
  rw [hg] at hg'; cases hg'
  obtain ⟨r', hr', -, hcap⟩ := hob.region
  rw [hr] at hr'; cases hr'
  obtain ⟨r', hr', hlt⟩ := (growable_iff _ _ _).1 hgrow
  rw [hr] at hr'; cases hr'
  exact {
    fresh := hl.imp_right fun hfree => (isLive_eq_false_iff _ _).1 hfree.2.2
    others := fun x hx =>
      (congrArg (regionGet · x) hmem).trans (regionGet_grownMemory_other s.mem s.work.obPtr.value r size (obZeroFlag s) hx)
    bytes := fun i hi =>
      (congrArg (readByte · g i) hmem).trans (readByte_grownMemory_below hr g (obZeroFlag s) hlt (hcap ▸ hi))
    zeros := fun hz => by
      have hflag : obZeroFlag s = true := by simp [obZeroFlag, hz]
      rw [hflag] at hmem ⊢
      exact (congrArg (regionByte · g) hmem).trans (regionByte_grownMemory_zero hm hr g hlt) }

/-- A growth that is denied leaves the regions and the registers (R168). -/
theorem obGrow_denied {s t : State} (h : obGrow s = .ok (.fail, t)) : t.mem = s.mem ∧ t.work = s.work := by
  obtain ⟨size, -, -, ⟨-, hn, rfl⟩ | ⟨g, hd, -⟩⟩ := obGrow_ok h
  · obtain ⟨-, hmem⟩ | ⟨g, r, hg, -⟩ := reqGrow_cases s.work.obPtr.value size (obZeroFlag s) s
    · exact ⟨hmem, by rw [reqGrow_frame]⟩
    · rw [hn] at hg; cases hg
  · cases hd

/-- `OB.ENSURE` that goes on keeps the output region (R167). -/
theorem obEnsure_kept {idx : Nat} {s t : State} (hm : Memory.wf s.mem) (hob : ObReady s)
    (h : obEnsure idx s = .ok (.done, t)) : OutputKept s t := by
  obtain ⟨-, -, rfl⟩ | ⟨-, hg⟩ := obEnsure_ok h
  · exact .refl _
  · exact obGrow_kept hm hob hg

/-- `OB.ENSURE` fails only in a growth, which leaves the regions and the registers (R167, R168). -/
theorem obEnsure_denied {idx : Nat} {s t : State} (h : obEnsure idx s = .ok (.fail, t)) :
    s.work.obCap.value ≤ idx ∧ t.mem = s.mem ∧ t.work = s.work := by
  obtain ⟨-, hr, -⟩ | ⟨hle, hg⟩ := obEnsure_ok h
  · cases hr
  · exact ⟨hle, obGrow_denied hg⟩

/-- An `OB.ENSURE` that can be denied or succeed has succeeded where it returned `DONE`. -/
theorem ensured_of_done {idx : Nat} {s t : State} {P : State → Prop}
    (h : (∃ u, obEnsure idx s = .ok (.fail, u) ∧ P u) ∨ ∃ u, obEnsure idx s = .ok (.done, u) ∧ Ensured idx s u)
    (hok : obEnsure idx s = .ok (.done, t)) : Ensured idx s t := by
  obtain ⟨u, hu, -⟩ | ⟨u, hu, hens⟩ := h
  · rw [hu] at hok; cases hok
  · rw [hu] at hok; cases hok; exact hens

/-- A region newly obtained is the only change of the regions, and reads as zeros where it was asked for so (R161, R165). -/
theorem obAlloc_output {size inc : Nat} {zero : Bool} {s : State} (h : (obAlloc size inc zero s).1 = .done) (sup : Nat) :
    OnlyOutput s.mem sup (obAlloc size inc zero s).2.mem (obAlloc size inc zero s).2.work.obPtr.value ∧
      (zero = true → ∀ i, regionByte (obAlloc size inc zero s).2.mem (obAlloc size inc zero s).2.work.obPtr.value i = 0) := by
  obtain ⟨hf, -⟩ | ⟨g, -, hg, ht⟩ := obAlloc_cases size inc zero s
  · rw [hf] at h; cases h
  obtain ⟨hn, -⟩ | ⟨g', seed, hg', -, -, hfree, hmem⟩ := reqAlloc_cases size zero s
  · rw [hn] at hg; cases hg
  rw [hg] at hg'; cases hg'
  rw [ht]
  refine ⟨⟨.inr ((isLive_eq_false_iff _ _).1 hfree), fun x hx => .inl ?_⟩, ?_⟩
  · exact (congrArg (regionGet · x) hmem).trans (regionGet_regionPut_other s.mem (newRegion g size zero seed) hx)
  · rintro rfl i
    exact (congrArg (regionByte · g i) hmem).trans (regionByte_newRegion_zero s.mem g size seed i)

/-- A denied `OB.ALLOC` leaves the regions (R161). -/
theorem obAlloc_denied {size inc : Nat} {zero : Bool} {s : State} (h : (obAlloc size inc zero s).1 = .fail) :
    (obAlloc size inc zero s).2.mem = s.mem := by
  obtain ⟨-, -, hm⟩ | ⟨g, hd, -⟩ := obAlloc_cases size inc zero s
  · exact hm
  · rw [hd] at h; cases h

/-! ### Reads and writes of CORE, and a command's run -/

theorem outRead_ok {s : State} {i : Nat} {b : Byte} (h : outRead s i = .ok b) :
    readByte s.mem s.work.obPtr.value i = some b := by
  unfold outRead at h
  split at h
  · cases h; assumption
  · cases h

theorem inRead_ok {s : State} {i : Nat} {b : Byte} (h : inRead s i = .ok b) : readByte s.mem s.inPtr i = some b := by
  unfold inRead at h
  split at h
  · cases h; assumption
  · cases h

/-- The input of a command reads the same while its region stands (R63). -/
theorem inputByte_congr {s t : State} (hp : t.inPtr = s.inPtr) (hr : regionGet t.mem s.inPtr = regionGet s.mem s.inPtr) :
    inputByte t = inputByte s := by
  unfold inputByte
  rw [hp, regionByte_congr hr]

/-- A command that has ended takes no step. -/
theorem untilIdle_of_ended {n : Nat} {s t : State} (he : Ended s) (h : untilIdle n s = .ok t) : t = s := by
  have hstays : untilIdle n s = .ok s := by cases n <;> simp [untilIdle, he.busy]
  exact Except.ok.inj (h.symm.trans hstays)

/-- What each step of a command in its invariant keeps, its steps to the end keep. -/
theorem untilIdle_keeps {P : State → Prop} (hstep : ∀ u v, CommandInv u → P u → coreStep u = .ok v → P v) {n : Nat}
    {s t : State} (hinv : CommandInv s) (hp : P s) (h : untilIdle n s = .ok t) : P t := by
  induction n generalizing s with
  | zero => simp [untilIdle, hinv.busy] at h
  | succ n ih =>
    obtain ⟨u, hu, -, hcase⟩ := hinv.step
    simp only [untilIdle, hinv.busy, if_true, hu] at h
    have hpu := hstep s u hinv hp hu
    obtain he | ⟨hinvu, -⟩ := hcase
    · exact untilIdle_of_ended he h ▸ hpu
    · exact ih hinvu hpu h

/-- An admitted command ends, with what holds at its acceptance and is kept by each of its steps. -/
theorem command_ends {P : State → Prop} {c : Command} {s : State} (hs : Sound s) (ha : admission c s = none)
    (hstart : P (accept c s))
    (hstep : (accept c s).busy = true → ∀ u v, CommandInv u → P u → coreStep u = .ok v → P v) :
    ∃ t, runCommand c s = .next t ∧ Ended t ∧ P t := by
  have hacc := accept_inv hs ha
  obtain ⟨t, ht, hend⟩ := untilIdle_ends hacc
  refine ⟨t, by simp [runCommand, ha, ht], hend, ?_⟩
  obtain he | ⟨hinv, -⟩ := hacc
  · exact untilIdle_of_ended he ht ▸ hstart
  · exact untilIdle_keeps (hstep hinv.busy) hinv hstart ht

/-! ### The code stream (R110, R187, R190) -/

/-- A byte has its entry in a well-formed table (R100, R131). -/
theorem getElem?_codeOf {rom : List CodeEntry} (h : Wf1 rom) (b : Byte) : rom[b.toNat]? = some (codeOf rom b) := by
  have hb : b.toNat < rom.length := by rw [h.1]; have := b.isLt; unfold nsym; omega
  simp [codeOf, List.getElem?_eq_getElem hb]

theorem codeOf_mem {rom : List CodeEntry} (h : Wf1 rom) (b : Byte) : codeOf rom b ∈ rom :=
  List.mem_of_getElem? (getElem?_codeOf h b)

theorem codePos_mono (rom : List CodeEntry) (b : Nat → Byte) {i j : Nat} (h : i ≤ j) :
    codePos rom b i ≤ codePos rom b j :=
  monotone_nat_of_le_succ (fun n => Nat.le_add_right (codePos rom b n) _) h

/-- The codes of at least one byte fill at least five bits (R101). -/
theorem five_le_codePos {rom : List CodeEntry} (hrom : RomWf rom) (b : Nat → Byte) {n : Nat} (hn : n ≠ 0) :
    5 ≤ codePos rom b n :=
  calc 5 ≤ (codeOf rom (b 0)).length.toNat := (hrom.wf2 _ (codeOf_mem hrom.wf1 _)).1
    _ ≤ codePos rom b 1 := Nat.le_add_left _ _
    _ ≤ codePos rom b n := codePos_mono rom b (Nat.one_le_iff_ne_zero.2 hn)

/-- Before position `p` the stream `B` is that of the codes of the bytes `b`; from there on it is 0. -/
structure CodeStream (rom : List CodeEntry) (b : Nat → Byte) (p : Nat) (B : Nat → Byte) : Prop where
  codes : ∀ i k, k < (codeOf rom (b i)).length.toNat → codePos rom b i + k < p →
    streamBit B (codePos rom b i + k) =
      (codeOf rom (b i)).code.toNat.testBit ((codeOf rom (b i)).length.toNat - 1 - k)
  clear : ∀ q, p ≤ q → streamBit B q = false

/-- A stream of zeros holds no code yet. -/
theorem codeStream_start (rom : List CodeEntry) (b : Nat → Byte) {B : Nat → Byte} (h : ∀ i, B i = 0) :
    CodeStream rom b 0 B :=
  ⟨fun _ _ _ hlt => absurd hlt (Nat.not_lt_zero _), fun q _ => by simp [streamBit, h]⟩

/-- A pass of `ENC.PACK` in the code of byte `i`, `left` bits before its end (R185). -/
theorem CodeStream.pack {rom : List CodeEntry} {b : Nat → Byte} {p left i : Nat} {B : Nat → Byte}
    (h : CodeStream rom b p B) (hend : p + left = codePos rom b (i + 1))
    (hleft : left ≤ (codeOf rom (b i)).length.toNat) :
    CodeStream rom b (p + packCount p left) (orByte B (p / 8) (packByte (codeOf rom (b i)).code.toNat p left)) := by
  have hcount : packCount p left ≤ left := Nat.min_le_right _ _
  have hfree : packCount p left ≤ 8 - p % 8 := Nat.min_le_left _ _
  have hsucc : codePos rom b (i + 1) = codePos rom b i + (codeOf rom (b i)).length.toNat := rfl
  have hwritten : ∀ q, streamBit (orByte B (p / 8) (packByte (codeOf rom (b i)).code.toNat p left)) q =
      (streamBit B q || (decide (p ≤ q ∧ q < p + packCount p left) &&
        (codeOf rom (b i)).code.toNat.testBit (left - 1 - (q - p)))) := fun q => by
    rw [streamBit_orByte]
    by_cases hq : q / 8 = p / 8
    · rw [getLsbD_packByte hq]; simp [hq]
    · simp [hq, show ¬ (p ≤ q ∧ q < p + packCount p left) by omega]
  refine ⟨fun j k hk hlt => ?_, fun q hq => ?_⟩
  · rw [hwritten]
    by_cases hold : codePos rom b j + k < p
    · rw [h.codes j k hk hold]
      simp [show ¬ p ≤ codePos rom b j + k by omega]
    · have hji : j = i := by
        have hsuccj : codePos rom b (j + 1) = codePos rom b j + (codeOf rom (b j)).length.toNat := rfl
        by_contra hne
        obtain hji | hij := Nat.lt_or_gt_of_ne hne
        · have := codePos_mono rom b (show j + 1 ≤ i from hji); omega
        · have := codePos_mono rom b (show i + 1 ≤ j from hij); omega
      subst hji
      rw [h.clear _ (by omega), show left - 1 - (codePos rom b j + k - p) = (codeOf rom (b j)).length.toNat - 1 - k by omega]
      simp [show p ≤ codePos rom b j + k by omega, hlt]
  · rw [hwritten, h.clear q (by omega)]
    simp [show ¬ q < p + packCount p left by omega]

/-- The stream with its last byte padded (R186). -/
def padded (B : Nat → Byte) (p : Nat) : Nat → Byte := if p % 8 = 0 then B else orByte B (p / 8) (padByte (p % 8))

theorem streamBit_padded (B : Nat → Byte) (p q : Nat) :
    streamBit (padded B p) q = (streamBit B q || decide (p ≤ q ∧ q < 8 * ((p + 7) / 8))) := by
  unfold padded
  split
  · simp [show ¬ (p ≤ q ∧ q < 8 * ((p + 7) / 8)) by omega]
  · rw [streamBit_orByte]
    by_cases hq : q / 8 = p / 8
    · rw [getLsbD_padByte hq, show decide (p ≤ q ∧ q < 8 * ((p + 7) / 8)) = decide (p ≤ q) from decide_eq_decide.2 (by omega)]
      simp [hq]
    · simp [hq, show ¬ (p ≤ q ∧ q < 8 * ((p + 7) / 8)) by omega]

/-- The codes as numbers, in a stream that holds them and its padding (R190). -/
theorem CodeStream.streamBits_padded {rom : List CodeEntry} {b : Nat → Byte} {n : Nat} {B : Nat → Byte} (hrom : RomWf rom)
    (h : CodeStream rom b (codePos rom b n) B) {i : Nat} (hi : i < n) :
    streamBits (padded B (codePos rom b n)) (codePos rom b i) (codeOf rom (b i)).length.toNat =
      (codeOf rom (b i)).code.toNat := by
  have hend : codePos rom b i + (codeOf rom (b i)).length.toNat ≤ codePos rom b n := codePos_mono rom b hi
  refine streamBits_eq_of_bits (hrom.wf3 _ (codeOf_mem hrom.wf1 _)) fun k hk => ?_
  rw [streamBit_padded, h.codes i k hk (by omega)]
  simp [show ¬ codePos rom b n ≤ codePos rom b i + k by omega]

/-- Every byte past those the codes fill is 0 (R187). -/
theorem CodeStream.padded_slack {rom : List CodeEntry} {b : Nat → Byte} {p i : Nat} {B : Nat → Byte} (h : CodeStream rom b p B)
    (hi : (p + 7) / 8 ≤ i) : padded B p i = 0 := by
  refine byte_eq_zero_of_bits fun q hq => ?_
  rw [streamBit_padded, h.clear q (by omega)]
  simp [show ¬ q < 8 * ((p + 7) / 8) by omega]

/-! ### What each step of an ENCODE does (R183 to R188) -/

/-- All that a completed `ENC.ALLOC` can be (R183, R189). -/
theorem encAlloc_ok {s t : State} (h : encAlloc s = .ok t) :
    ((obAlloc (cap0 s.inLen) encInc true s).1 = .fail ∧
        t = endCommand .ok nullHandle 0 0 (obAlloc (cap0 s.inLen) encInc true s).2) ∨
      ((obAlloc (cap0 s.inLen) encInc true s).1 = .done ∧
        t = ((obAlloc (cap0 s.inLen) encInc true s).2.withWork
          { (obAlloc (cap0 s.inLen) encInc true s).2.work with symIdx := .wr 0, bitsSet := .wr 0 }).withPhase .encFetch) := by
  obtain ⟨size, hs, h⟩ := ok_of_bind h
  obtain ⟨inc, hi, h⟩ := ok_of_bind h
  cases fit_eq hs
  cases fit_eq hi
  simp only at h
  split at h
  · rename_i hf; cases h; exact .inl ⟨hf, rfl⟩
  · rename_i hd; cases h; exact .inr ⟨hd, rfl⟩

/-- All that a completed `ENC.FETCH` can be (R184). -/
theorem encFetch_ok {s t : State} (h : encFetch s = .ok t) :
    (s.work.symIdx.value = s.inLen ∧ t = s.withPhase .encPad) ∨
      ∃ b e, readByte s.mem s.inPtr s.work.symIdx.value = some b ∧ s.rom[b.toNat]? = some e ∧
        t = (s.withWork { s.work with
          curCode := .wr e.code, curLen := .wr e.length, bitsLeft := .wr e.length,
          symIdx := .wr (s.work.symIdx.value + 1) }).withPhase .encPack := by
  obtain ⟨_, -, h⟩ := ok_of_bind h
  simp only at h
  split at h
  · rename_i hend; cases h; exact .inl ⟨hend, rfl⟩
  · obtain ⟨b, hb, h⟩ := ok_of_bind h
    obtain ⟨e, he, h⟩ := ok_of_bind h
    obtain ⟨i, hi, h⟩ := ok_of_bind h
    cases fit_eq hi
    cases h
    refine .inr ⟨b, e, inRead_ok hb, ?_, rfl⟩
    unfold romAt at he
    split at he
    · cases he; assumption
    · cases he

/-- All that a completed pass of `ENC.PACK` in byte `idx` can be (R185). -/
theorem encPackByte_ok {idx : Nat} {s t : State} (h : encPackByte idx s = .ok t) :
    ∃ old m, readByte s.mem s.work.obPtr.value idx = some old ∧
      writeByte s.mem s.work.obPtr.value idx
        (old ||| packByte s.work.curCode.value.toNat s.work.bitsSet.value s.work.bitsLeft.value.toNat) = some m ∧
      t = ((s.withMem m).withWork { s.work with
          obLen := .wr (idx + 1),
          bitsSet := .wr (s.work.bitsSet.value + packCount s.work.bitsSet.value s.work.bitsLeft.value.toNat),
          bitsLeft := .wr (BitVec.ofNat 6
            (s.work.bitsLeft.value.toNat - packCount s.work.bitsSet.value s.work.bitsLeft.value.toNat)) }).withPhase
        (if s.work.bitsLeft.value.toNat - packCount s.work.bitsSet.value s.work.bitsLeft.value.toNat = 0 then .encFetch
          else .encPack) := by
  obtain ⟨_, -, h⟩ := ok_of_bind h
  obtain ⟨old, hold, h⟩ := ok_of_bind h
  obtain ⟨s1, hw, h⟩ := ok_of_bind h
  obtain ⟨pos, hp, h⟩ := ok_of_bind h
  obtain ⟨len, hl, h⟩ := ok_of_bind h
  obtain ⟨m, hm, rfl⟩ := outWrite_ok hw
  cases fit_eq hp
  cases fit_eq hl
  cases h
  exact ⟨old, m, outRead_ok hold, hm, rfl⟩

/-- All that a completed `OB.RELEASE` does outside the working registers (R169). -/
theorem obRelease_ok {s t : State} (h : obRelease s = .ok t) :
    Untouched s t ∧ t.mem = regionDrop s.mem s.work.obPtr.value := by
  obtain ⟨_, -, h⟩ := ok_of_bind h
  split at h
  · cases h
    have hrelease : Untouched s (reqRelease s.work.obPtr.value s) := {}
    exact ⟨hrelease.trans {}, rfl⟩
  · cases h

/-- All that a completed unwind is (R188). -/
theorem encUnwind_ok {s t : State} (h : encUnwind s = .ok t) :
    ∃ u, Untouched s u ∧ u.mem = regionDrop s.mem s.work.obPtr.value ∧ t = endCommand .ok nullHandle 0 0 u := by
  obtain ⟨u, hr, h⟩ := ok_of_bind h
  obtain ⟨hu, hm⟩ := obRelease_ok hr
  cases h
  exact ⟨u, hu, hm, rfl⟩

/-- All that a completed `ENC.PAD` can be (R186): the output region holds the stream padded. -/
theorem encPad_ok {s t : State} (h : encPad s = .ok t) :
    ∃ m, SameRegions s.mem m ∧ (∀ g, g ≠ s.work.obPtr.value → regionGet m g = regionGet s.mem g) ∧
      regionByte m s.work.obPtr.value = padded (regionByte s.mem s.work.obPtr.value) s.work.bitsSet.value ∧
      t = endCommand .ok s.work.obPtr.value ((s.work.bitsSet.value + 7) / 8) s.work.obCap.value (s.withMem m) := by
  obtain ⟨_, -, h⟩ := ok_of_bind h
  obtain ⟨len, hl, h⟩ := ok_of_bind h
  cases fit_eq hl
  unfold padded
  split at h
  · cases h
    rw [if_pos ‹_›]
    exact ⟨s.mem, .refl _, fun _ _ => rfl, rfl, rfl⟩
  · obtain ⟨old, hold, h⟩ := ok_of_bind h
    obtain ⟨s1, hw, h⟩ := ok_of_bind h
    obtain ⟨m, hm, rfl⟩ := outWrite_ok hw
    cases h
    rw [if_neg ‹_›]
    obtain ⟨-, -, -, -, -, hothers⟩ := writeByte_cases hm
    exact ⟨m, regionGet_writeByte hm, hothers, regionByte_writeByte_or (outRead_ok hold) hm, rfl⟩

/-! ### The invariant of an ENCODE -/

/-- From the acceptance in `s₀` to `s`, in which the ENCODE has its region: that region alone has changed, and it holds the codes
as far as `BITS_SET`. -/
structure EncProgress (s₀ s : State) : Prop extends Untouched s₀ s where
  output : OnlyOutput s₀.mem nullHandle s.mem s.work.obPtr.value
  stream : CodeStream s₀.rom (inputByte s₀) s.work.bitsSet.value (regionByte s.mem s.work.obPtr.value)

/-- The capacity is that of the growths `len` bytes need (R182, R196). -/
def CapFor (s₀ : State) (len cap : Nat) : Prop := cap = cap0 s₀.inLen + 100 * ((len - cap0 s₀.inLen + 99) / 100)

/-- The code of the symbol before `SYM_IDX` is being packed: `BITS_LEFT` bits of it are still to write (R184, R185). -/
def PackingSymbol (s₀ s : State) : Prop :=
  ∃ i, s.work.symIdx.value = i + 1 ∧ s.work.curCode.value = (codeOf s₀.rom (inputByte s₀ i)).code ∧
    s.work.bitsLeft.value.toNat ≤ (codeOf s₀.rom (inputByte s₀ i)).length.toNat ∧
    s.work.bitsSet.value + s.work.bitsLeft.value.toNat = codePos s₀.rom (inputByte s₀) (i + 1)

/-- The ends of an ENCODE: no result and the regions as they were, or the complete encoding in a region obtained (R187 to R190). -/
def EncodeResult (s₀ t : State) : Prop :=
  (t.resPtr = nullHandle ∧ t.resLen = 0 ∧ t.resCap = 0 ∧ ∀ g, regionGet t.mem g = regionGet s₀.mem g) ∨
    (t.resPtr ≠ nullHandle ∧ OnlyOutput s₀.mem nullHandle t.mem t.resPtr ∧ 1 ≤ t.resLen ∧ t.resLen ≤ t.resCap ∧
      Encoded s₀ t ∧ ∃ r, regionGet t.mem t.resPtr = some r ∧ r.granted = true ∧ r.cap = t.resCap)

/-- What holds in each PHASE of an ENCODE accepted in `s₀`. -/
def EncodeStage (s₀ s : State) : Prop :=
  match s.phase with
  | .encAlloc => Untouched s₀ s ∧ s.mem = s₀.mem
  | .encFetch =>
    EncProgress s₀ s ∧ CapFor s₀ s.work.obLen.value s.work.obCap.value ∧
      s.work.bitsSet.value = codePos s₀.rom (inputByte s₀) s.work.symIdx.value
  | .encPack => EncProgress s₀ s ∧ CapFor s₀ s.work.obLen.value s.work.obCap.value ∧ PackingSymbol s₀ s
  | .encPad =>
    EncProgress s₀ s ∧ CapFor s₀ s.work.obLen.value s.work.obCap.value ∧
      s.work.bitsSet.value = codePos s₀.rom (inputByte s₀) s.work.symIdx.value
  | .idle => Untouched s₀ s ∧ s.resKind = 0 ∧ EncodeResult s₀ s
  | _ => False

/-! ### Each step of an ENCODE keeps its invariant -/

section
variable {s₀ s t : State}

theorem encAlloc_stage (hu : Untouched s₀ s) (hmem : s.mem = s₀.mem) (h : encAlloc s = .ok t) : EncodeStage s₀ t := by
  have hlen := hu.inLen
  have hall := hu.trans (obAlloc_untouched (cap0 s.inLen) encInc true s)
  obtain ⟨hf, rfl⟩ | ⟨hd, rfl⟩ := encAlloc_ok h
  · have hsame : (obAlloc (cap0 s.inLen) encInc true s).2.mem = s₀.mem := (obAlloc_denied hf).trans hmem
    exact ⟨hall.trans {}, rfl, .inl ⟨rfl, rfl, rfl, fun g => by rw [endCommand_mem, hsame]⟩⟩
  · obtain ⟨hout, hzero⟩ := obAlloc_output hd nullHandle
    rw [hmem] at hout
    obtain hf | ⟨-, hob⟩ := obAlloc_obtained (cap0 s.inLen) encInc true s
    · rw [hf] at hd; cases hd
    refine ⟨{ toUntouched := hall.trans {}, output := hout, stream := codeStream_start _ _ (hzero rfl) }, ?_, rfl⟩
    unfold CapFor
    rw [← hlen]
    simp [hob.obCap, hob.obLen]

/-- The input of an ENCODE reads as at its acceptance. -/
theorem EncProgress.inputByte_eq (h0 : Sound s₀) (h : EncProgress s₀ s) (hready : EncReady s) :
    inputByte s = inputByte s₀ :=
  inputByte_congr h.inPtr (h.inPtr ▸ h.output.same h0.mem hready.apart.symm)

theorem encFetch_stage (h0 : Sound s₀) (hready : EncReady s) (h : EncProgress s₀ s)
    (hcap : CapFor s₀ s.work.obLen.value s.work.obCap.value)
    (hpos : s.work.bitsSet.value = codePos s₀.rom (inputByte s₀) s.work.symIdx.value) (hok : encFetch s = .ok t) :
    EncodeStage s₀ t := by
  obtain ⟨-, rfl⟩ | ⟨b, e, hb, he, rfl⟩ := encFetch_ok hok
  · exact ⟨{ toUntouched := h.toUntouched.trans {}, output := h.output, stream := h.stream }, hcap, hpos⟩
  · have hbyte : inputByte s₀ s.work.symIdx.value = b := h.inputByte_eq h0 hready ▸ regionByte_of_readByte hb
    have hentry : codeOf s₀.rom (inputByte s₀ s.work.symIdx.value) = e := by
      rw [hbyte]
      exact Option.some.inj ((getElem?_codeOf h0.rom.wf1 b).symm.trans (h.rom ▸ he))
    subst hentry
    exact ⟨{ toUntouched := h.toUntouched.trans {}, output := h.output, stream := h.stream }, hcap,
      s.work.symIdx.value, rfl, rfl, le_rfl, congrArg (· + _) hpos⟩

theorem encPackByte_stage (h : EncProgress s₀ s) (hsym : PackingSymbol s₀ s)
    (hcap : CapFor s₀ (s.work.bitsSet.value / 8 + 1) s.work.obCap.value)
    (hok : encPackByte (s.work.bitsSet.value / 8) s = .ok t) : EncodeStage s₀ t := by
  obtain ⟨old, m, hr, hw, rfl⟩ := encPackByte_ok hok
  obtain ⟨i, hidx, hcode, hleft, hend⟩ := hsym
  have hcount : packCount s.work.bitsSet.value s.work.bitsLeft.value.toNat ≤ s.work.bitsLeft.value.toNat :=
    Nat.min_le_right _ _
  have hlt := s.work.bitsLeft.value.isLt
  have hstream := h.stream.pack hend hleft
  rw [← hcode, ← regionByte_writeByte_or hr hw] at hstream
  generalize packCount s.work.bitsSet.value s.work.bitsLeft.value.toNat = n at *
  split
  · rename_i hdone
    refine ⟨{ toUntouched := h.toUntouched.trans {}, output := h.output.write hw, stream := hstream }, hcap, ?_⟩
    show s.work.bitsSet.value + n = codePos s₀.rom (inputByte s₀) s.work.symIdx.value
    rw [hidx, ← hend]; omega
  · have hrest : (BitVec.ofNat 6 (s.work.bitsLeft.value.toNat - n)).toNat = s.work.bitsLeft.value.toNat - n := by
      rw [BitVec.toNat_ofNat]; omega
    refine ⟨{ toUntouched := h.toUntouched.trans {}, output := h.output.write hw, stream := hstream }, hcap,
      i, hidx, hcode, ?_, ?_⟩
    · show (BitVec.ofNat 6 (s.work.bitsLeft.value.toNat - n)).toNat ≤ _
      omega
    · show s.work.bitsSet.value + n + (BitVec.ofNat 6 (s.work.bitsLeft.value.toNat - n)).toNat = _
      omega

/-- Growing the region keeps what an ENCODE has written (R168). -/
theorem EncProgress.ensured (h : EncProgress s₀ s) (hready : EncReady s) (hm : Memory.wf s.mem) {idx : Nat}
    (hok : obEnsure idx s = .ok (.done, t)) (hset : t.work.bitsSet = s.work.bitsSet) : EncProgress s₀ t := by
  have hkept := obEnsure_kept hm hready.ob hok
  refine { toUntouched := h.toUntouched.trans (obEnsure_untouched hok), output := h.output.grow hkept, stream := ?_ }
  rw [hset, hkept.zeros hready.zero]
  exact h.stream

/-- The unwind of a denied growth leaves the regions as at the acceptance (R188). -/
theorem encUnwind_stage (h0 : Sound s₀) (h : EncProgress s₀ s) (hnull : s.work.obPtr.value ≠ nullHandle)
    (hok : encUnwind s = .ok t) : EncodeStage s₀ t := by
  obtain ⟨u, hu, hmem, rfl⟩ := encUnwind_ok hok
  refine ⟨(h.toUntouched.trans hu).trans {}, rfl, .inl ⟨rfl, rfl, rfl, fun g => ?_⟩⟩
  rw [endCommand_mem, hmem]
  by_cases hg : g = s.work.obPtr.value
  · rw [hg, regionGet_regionDrop_same, h.output.origin.resolve_left hnull]
  · rw [regionGet_regionDrop_other _ hg, h.output.same h0.mem hg]

theorem encPack_stage (h0 : Sound s₀) (hm : Memory.wf s.mem) (hroom : Room s) (hready : EncReady s) (h : EncProgress s₀ s)
    (hcap : CapFor s₀ s.work.obLen.value s.work.obCap.value) (hsym : PackingSymbol s₀ s) (hok : encPack s = .ok t) :
    EncodeStage s₀ t := by
  obtain ⟨hinput, hleast⟩ := hroom
  have hbits := hready.bits_le
  have hused := hready.used
  have hinc : s.work.obInc.value = 100 := hready.inc
  obtain ⟨_, -, hok⟩ := ok_of_bind hok
  obtain ⟨⟨r, u⟩, he, hok⟩ := ok_of_bind hok
  cases r with
  | fail =>
    obtain ⟨-, hmem, hwork⟩ := obEnsure_denied he
    have hu : EncProgress s₀ u := {
      toUntouched := h.toUntouched.trans (obEnsure_untouched he)
      output := by rw [hmem, hwork]; exact h.output
      stream := by rw [hmem, hwork]; exact h.stream }
    exact encUnwind_stage h0 hu (by rw [hwork]; exact hready.ob.notNull) hok
  | done =>
    have hens := ensured_of_done (obEnsure_ready hready.ob (by omega) (by omega) (fun _ => by omega)) he
    have hset : u.work.bitsSet = s.work.bitsSet := by rw [hens.work]
    have hsymu : PackingSymbol s₀ u := by
      unfold PackingSymbol
      rw [hens.work]
      exact hsym
    rw [← hset] at hok
    refine encPackByte_stage (h.ensured hready hm he hset) hsymu ?_ hok
    rw [hset]
    have hlen := hready.ob.len
    have hgrown := hens.cap
    have hlt := hens.room
    unfold CapFor at hcap ⊢
    omega

/-- A region that holds the code stream of the whole input, padded, is the encoding (R187, R190, R196). -/
theorem encoded_of_padded {B : Nat → Byte} (hrom : RomWf s₀.rom)
    (hstream : CodeStream s₀.rom (inputByte s₀) (codePos s₀.rom (inputByte s₀) s₀.inLen) B)
    (hbytes : regionByte t.mem t.resPtr = padded B (codePos s₀.rom (inputByte s₀) s₀.inLen))
    (hlen : t.resLen = (codePos s₀.rom (inputByte s₀) s₀.inLen + 7) / 8) (hcap : CapFor s₀ t.resLen t.resCap)
    (hregion : ∃ r, regionGet t.mem t.resPtr = some r ∧ r.granted = true ∧ r.cap = t.resCap) : Encoded s₀ t where
  len := hlen
  cap := hcap
  codes i hi := by rw [hbytes]; exact hstream.streamBits_padded hrom hi
  padding p hp hlt := by
    rw [hlen] at hlt
    simp [hbytes, streamBit_padded, hp, hlt]
  slack i hle hlt := by
    obtain ⟨r, hr, -, hc⟩ := hregion
    rw [readByte_eq_regionByte hr (hc ▸ hlt), hbytes, hstream.padded_slack (hlen ▸ hle)]

/-- `ENC.PAD` completes the encoding (R186, R187, R190). -/
theorem encPad_stage (h0 : Sound s₀) (hne : s₀.inLen ≠ 0) (hready : EncReady s) (hend : s.work.symIdx.value = s.inLen)
    (h : EncProgress s₀ s) (hcap : CapFor s₀ s.work.obLen.value s.work.obCap.value)
    (hpos : s.work.bitsSet.value = codePos s₀.rom (inputByte s₀) s.work.symIdx.value) (hok : encPad s = .ok t) :
    EncodeStage s₀ t := by
  obtain ⟨m, hsame, hothers, hbytes, rfl⟩ := encPad_ok hok
  have hstream := h.stream
  have hused := hready.used
  rw [hend, h.inLen] at hpos
  rw [hpos] at hstream hbytes hused ⊢
  have hfirst := five_le_codePos h0.rom (inputByte s₀) hne
  have hregion := hsame.granted hready.ob.region
  refine ⟨h.toUntouched.trans {}, rfl, .inr ⟨hready.ob.notNull, ?_, show 1 ≤ _ / 8 by omega, hused ▸ hready.ob.len,
    encoded_of_padded h0.rom hstream hbytes rfl (hused ▸ hcap) hregion, hregion⟩⟩
  exact ⟨h.output.origin, fun g hg => hothers g hg ▸ h.output.others g hg⟩

/-- A step of an ENCODE in its invariant keeps what its PHASE says. -/
theorem coreStep_encodeStage (h0 : Sound s₀) (hne : s₀.inLen ≠ 0) (hinv : CommandInv s) (h : EncodeStage s₀ s)
    (hok : coreStep s = .ok t) : EncodeStage s₀ t := by
  obtain ⟨hsound, -, hrange, hphase⟩ := hinv
  unfold PhaseInv at hphase
  unfold EncodeStage at h
  unfold coreStep at hok
  cases hp : s.phase <;> simp only [hp] at hphase h hok
  case encAlloc => exact encAlloc_stage h.1 h.2 hok
  case encFetch => exact encFetch_stage h0 hphase h.1 h.2.1 h.2.2 hok
  case encPack =>
    exact encPack_stage h0 hsound.mem (room_of_range hsound.fits.width hrange) hphase.1 h.1 h.2.1 h.2.2 hok
  case encPad => exact encPad_stage h0 hne hphase.1 hphase.2 h.1 h.2.1 h.2.2 hok

end

theorem accept_encode_stage (s : State) : EncodeStage s (accept .encode s) := by
  simp only [accept]
  split
  · exact ⟨(beginCommand_untouched .idle s).trans (endCommand_untouched ..), rfl, .inl ⟨rfl, rfl, rfl, fun _ => rfl⟩⟩
  · exact ⟨beginCommand_untouched .encAlloc s, rfl⟩

/-- An admitted ENCODE ends, with `OK` and one of its results, and nothing else changed (R181, R187 to R189). -/
theorem encode_ends {s : State} (hs : Sound s) (ha : admission .encode s = none) :
    ∃ t, exec .encode s = .next t ∧ Ended t ∧ Untouched s t ∧ t.resKind = 0 ∧ EncodeResult s t := by
  obtain ⟨t, ht, hend, hstage⟩ := command_ends hs ha (accept_encode_stage s) fun hb u v hinv h hok => by
    have hne : s.inLen ≠ 0 := fun h0 => by simp [accept, h0] at hb
    exact coreStep_encodeStage hs hne hinv h hok
  unfold EncodeStage at hstage
  rw [hend.phase] at hstage
  exact ⟨t, ht, hend, hstage⟩

/-! ### The code at a position of the stream (R106, R214, R224) -/

/-- The next bits, of which `remaining` are left and the first `len` are `win len`, begin with the code of `e`. -/
def BeginsWith (win : Nat → Nat) (remaining : Nat) (e : CodeEntry) : Prop :=
  e.length.toNat ≤ remaining ∧ win e.length.toNat = e.code.toNat

/-- The stream of `8 * n` bits has the code of `e` at position `p`. -/
def CodeAt (b : Nat → Byte) (n p : Nat) (e : CodeEntry) : Prop := BeginsWith (streamBits b p) (8 * n - p) e

/-- No two codes of a well-formed table begin at one position (R103, R106). -/
theorem codeAt_unique {rom : List CodeEntry} (hrom : Wf4 rom) {b : Nat → Byte} {n p : Nat} {e f : CodeEntry} (he : e ∈ rom)
    (hf : f ∈ rom) (hce : CodeAt b n p e) (hcf : CodeAt b n p f) : e = f := by
  obtain ⟨i, hi⟩ := List.mem_iff_getElem?.1 he
  obtain ⟨j, hj⟩ := List.mem_iff_getElem?.1 hf
  by_cases hij : i = j
  · rw [hij, hj] at hi; exact (Option.some.inj hi).symm
  · obtain hle | hle := Nat.le_total e.length.toNat f.length.toNat
    · exact absurd (by rw [← hcf.2, streamBits_shiftRight _ _ hle, hce.2]) (hrom i j e f hij hi hj hle)
    · exact absurd (by rw [← hce.2, streamBits_shiftRight _ _ hle, hcf.2]) (hrom j i f e (Ne.symm hij) hj hi hle)

theorem entryAt_test_iff (b : Nat → Byte) (n p : Nat) (e : CodeEntry) :
    (decide (e.length.toNat ≤ 8 * n - p) && streamBits b p e.length.toNat == e.code.toNat) = true ↔ CodeAt b n p e := by
  simp [CodeAt, BeginsWith]

theorem entryAt_eq_none {rom : List CodeEntry} {b : Nat → Byte} {n p : Nat} (h : ∀ e ∈ rom, ¬CodeAt b n p e) :
    entryAt rom b n p = none :=
  List.find?_eq_none.2 fun e he ht => h e he ((entryAt_test_iff b n p e).1 ht)

/-- The entry at a position is the one whose code the stream has there. -/
theorem entryAt_eq_some {rom : List CodeEntry} (hrom : Wf4 rom) {b : Nat → Byte} {n p : Nat} {e : CodeEntry} (he : e ∈ rom)
    (hc : CodeAt b n p e) : entryAt rom b n p = some e := by
  cases hf : entryAt rom b n p with
  | none => exact absurd ((entryAt_test_iff b n p e).2 hc) (List.find?_eq_none.1 hf e he)
  | some f =>
    have htest := List.find?_some hf
    rw [codeAt_unique hrom (List.mem_of_find?_eq_some hf) he ((entryAt_test_iff b n p f).1 htest) hc]

/-! ### The parse of the stream (R224) -/

/-- The first element of what is left of a list, and what is left after it. -/
theorem getElem?_and_drop_succ {α : Type} {l r : List α} {k : Nat} {a : α} (h : l.drop k = a :: r) :
    l[k]? = some a ∧ l.drop (k + 1) = r := by
  constructor
  · simpa [h] using (List.getElem?_drop (xs := l) (i := k) (j := 0)).symm
  · rw [← List.drop_drop, h]; rfl

section
variable {rom : List CodeEntry} {b : Nat → Byte} {n p : Nat}

/-- The parse ends with the input. -/
theorem parseFrom_of_le (fuel : Nat) (h : 8 * n ≤ p) : parseFrom rom b n fuel p = [] := by
  cases fuel with
  | zero => rfl
  | succ fuel => simp [parseFrom, h]

/-- It ends where no code begins. -/
theorem parseFrom_of_none (fuel : Nat) (h : entryAt rom b n p = none) : parseFrom rom b n fuel p = [] := by
  cases fuel with
  | zero => rfl
  | succ fuel => simp [parseFrom, h]

/-- It ends at the code of symbol 256. -/
theorem parseFrom_of_eos (fuel : Nat) {e : CodeEntry} (h : entryAt rom b n p = some e) (hs : e.symbol.toNat = eosSymbol) :
    parseFrom rom b n fuel p = [] := by
  cases fuel with
  | zero => rfl
  | succ fuel => simp [parseFrom, h, hs]

/-- It goes on past the code of another symbol, with fuel enough for the bits after it. -/
theorem parseFrom_of_symbol {fuel : Nat} {e : CodeEntry} (hp : p < 8 * n) (hfuel : 8 * n - p ≤ fuel)
    (h : entryAt rom b n p = some e) (hs : e.symbol.toNat ≠ eosSymbol) (hlen : 1 ≤ e.length.toNat) :
    ∃ fuel', 8 * n - (p + e.length.toNat) ≤ fuel' ∧
      parseFrom rom b n fuel p = e.symbol.toNat :: parseFrom rom b n fuel' (p + e.length.toNat) := by
  obtain ⟨fuel', rfl⟩ : ∃ f, fuel = f + 1 := ⟨fuel - 1, by omega⟩
  exact ⟨fuel', by omega, by simp [parseFrom, h, hs, Nat.not_le.2 hp]⟩

end

/-! ### The scan finds the code at the position (R214) -/

/-- What a scan of `l`, whose first entry has index `k₀`, says of the next bits: they begin with the code of the entry found,
and where none is found with no code of `l`. -/
def ScanMeets (win : Nat → Nat) (remaining k₀ : Nat) (l : List CodeEntry) : Scan → Prop
  | .found k => ∃ e, k₀ ≤ k ∧ l[k - k₀]? = some e ∧ BeginsWith win remaining e ∧ e.symbol.toNat ≠ eosSymbol
  | .eos _ => ∃ e ∈ l, BeginsWith win remaining e ∧ e.symbol.toNat = eosSymbol
  | .internal _ => False
  | .short _ => ∀ e ∈ l, ¬BeginsWith win remaining e
  | .noMatch _ => ∀ e ∈ l, ¬BeginsWith win remaining e

/-- An entry passed over does not change what the scan says. -/
theorem ScanMeets.cons {win : Nat → Nat} {remaining k₀ : Nat} {e : CodeEntry} {l : List CodeEntry} {r : Scan}
    (hne : ¬BeginsWith win remaining e) (h : ScanMeets win remaining (k₀ + 1) l r) :
    ScanMeets win remaining k₀ (e :: l) r := by
  cases r with
  | found k =>
    obtain ⟨f, hk, hget, hrest⟩ := h
    refine ⟨f, by omega, ?_, hrest⟩
    rw [show k - k₀ = (k - (k₀ + 1)) + 1 by omega, List.getElem?_cons_succ]
    exact hget
  | eos k =>
    obtain ⟨f, hf, hrest⟩ := h
    exact ⟨f, List.mem_cons_of_mem _ hf, hrest⟩
  | internal k => exact h
  | short k => exact List.forall_mem_cons.2 ⟨hne, h⟩
  | noMatch k => exact List.forall_mem_cons.2 ⟨hne, h⟩

/-- In a table of rising lengths an entry with no room leaves none to the entries after it (R106, R214). -/
theorem scanFrom_meets (win : Nat → Nat) (remaining : Nat) {l : List CodeEntry}
    (hrise : l.Pairwise fun x y => x.length.toNat ≤ y.length.toNat) (hmax : ∀ e ∈ l, e.length.toNat ≤ windowMax) (k₀ : Nat) :
    ScanMeets win remaining k₀ l (scanFrom win remaining k₀ l) := by
  induction l generalizing k₀ with
  | nil => intro e he; cases he
  | cons e es ih =>
    obtain ⟨hle, hrise⟩ := List.pairwise_cons.1 hrise
    obtain ⟨hmaxe, hmax⟩ := List.forall_mem_cons.1 hmax
    unfold scanFrom
    split
    · exact List.forall_mem_cons.2 ⟨fun h => by have := h.1; omega, fun f hf h => by have := h.1; have := hle f hf; omega⟩
    · rename_i hroom
      rw [if_neg (by omega)]
      split
      · rename_i hwin
        split
        · exact ⟨e, by simp, ⟨by omega, hwin⟩, ‹_›⟩
        · exact ⟨e, le_rfl, by simp, ⟨by omega, hwin⟩, ‹_›⟩
      · rename_i hwin
        exact (ih hrise hmax (k₀ + 1)).cons fun h => hwin h.2

/-- The bits the decoder sees are those of the input, as far as it goes (R67, R216). -/
theorem window_inZero {s : State} (hin : InputLive s) {p len : Nat} (h32 : len ≤ 32) (h : p + len ≤ 8 * s.inLen) :
    window (inZero s) p len = streamBits (inputByte s) p len := by
  rw [window_eq_streamBits _ _ h32]
  refine streamBits_congr fun q _ hq => ?_
  obtain ⟨r, hr, hcap⟩ := hin
  have hlt : q / 8 < s.inLen := by omega
  have hbyte : inputByte s (q / 8) = r.byteAt (q / 8) := regionByte_of_readByte (readByte_of_regionGet hr (by omega))
  simp only [streamBit, hbyte, inZero, if_pos hlt, hr]

/-- A scan looks for the code the input has at the current position. -/
theorem beginsWith_window_iff {s : State} (hin : InputLive s) {p : Nat} (hp : p < 8 * s.inLen) {e : CodeEntry}
    (h32 : e.length.toNat ≤ 32) : BeginsWith (window (inZero s) p) (8 * s.inLen - p) e ↔ CodeAt (inputByte s) s.inLen p e := by
  unfold CodeAt BeginsWith
  refine and_congr_right fun hroom => ?_
  rw [window_inZero hin h32 (by omega)]

/-- The entries of a built table are those of `ROM` (R146). -/
theorem mem_dt_iff {s : State} (hdt : DtSound s) (hb : s.dtValid = true) (e : CodeEntry) : e ∈ s.dt ↔ e ∈ s.rom := by
  rw [hdt hb]; exact mem_sortByLength e s.rom

theorem length_dt {s : State} (hrom : Wf1 s.rom) (hdt : DtSound s) (hb : s.dtValid = true) : s.dt.length = nsym := by
  rw [hdt hb, (sortByLength_perm s.rom).length_eq, hrom.1]

/-- What a scan of the built table says of the input at the current position (R214, R215). -/
theorem scanResult_meets {s : State} (hrom : RomWf s.rom) (hdt : DtSound s) (h : DecReady s) :
    ScanMeets (window (inZero s) s.work.bitsDone.value) (8 * s.inLen - s.work.bitsDone.value) 0 s.dt (scanResult s) := by
  unfold scanResult
  rw [h.total, List.take_of_length_le (Nat.le_of_eq (length_dt hrom.wf1 hdt h.built))]
  refine scanFrom_meets _ _ (hdt h.built ▸ sortByLength_rising s.rom) (fun e he => ?_) 0
  have := (hrom.wf2 e ((mem_dt_iff hdt h.built e).1 he)).2
  unfold windowMax
  omega

/-- What a scan of the built table finds is the entry whose code begins at the current position, if there is one (R214, R224). -/
theorem scanResult_cases {s : State} (hrom : RomWf s.rom) (hdt : DtSound s) (h : DecReady s)
    (hlt : s.work.bitsDone.value < s.work.bitsTotal.value) :
    (∃ k e, scanResult s = .found k ∧ s.dt[(BitVec.ofNat 9 k).toNat]? = some e ∧ e.symbol.toNat ≠ eosSymbol ∧
        entryAt s.rom (inputByte s) s.inLen s.work.bitsDone.value = some e) ∨
      (∃ k e, scanResult s = .eos k ∧ e.symbol.toNat = eosSymbol ∧
        entryAt s.rom (inputByte s) s.inLen s.work.bitsDone.value = some e) ∨
      ((∃ k, scanResult s = .short k ∨ scanResult s = .noMatch k) ∧
        entryAt s.rom (inputByte s) s.inLen s.work.bitsDone.value = none) := by
  rw [h.total] at hlt
  have hin : InputLive s := (h.input.resolve_left fun h0 => by omega).1
  have hmem := mem_dt_iff hdt h.built
  have hcode : ∀ e ∈ s.dt, BeginsWith (window (inZero s) s.work.bitsDone.value) (8 * s.inLen - s.work.bitsDone.value) e ↔
      CodeAt (inputByte s) s.inLen s.work.bitsDone.value e := fun e he =>
    beginsWith_window_iff hin hlt (by have := (hrom.wf2 e ((hmem e).1 he)).2; omega)
  have hsome : ∀ e ∈ s.dt, BeginsWith (window (inZero s) s.work.bitsDone.value) (8 * s.inLen - s.work.bitsDone.value) e →
      entryAt s.rom (inputByte s) s.inLen s.work.bitsDone.value = some e := fun e he hb =>
    entryAt_eq_some hrom.wf4 ((hmem e).1 he) ((hcode e he).1 hb)
  have hnone : (∀ e ∈ s.dt, ¬BeginsWith (window (inZero s) s.work.bitsDone.value) (8 * s.inLen - s.work.bitsDone.value) e) →
      entryAt s.rom (inputByte s) s.inLen s.work.bitsDone.value = none := fun hall =>
    entryAt_eq_none fun e he hc => hall e ((hmem e).2 he) ((hcode e ((hmem e).2 he)).2 hc)
  have hmeets := scanResult_meets hrom hdt h
  generalize hr : scanResult s = r at hmeets
  cases r with
  | found k =>
    obtain ⟨e, -, hget, hb, hsym⟩ := hmeets
    rw [Nat.sub_zero] at hget
    have hk : k < nsym := length_dt hrom.wf1 hdt h.built ▸ (List.getElem?_eq_some_iff.1 hget).1
    have hk9 : (BitVec.ofNat 9 k).toNat = k := by
      rw [BitVec.toNat_ofNat]; unfold nsym at hk; omega
    exact .inl ⟨k, e, rfl, by rw [hk9, hget], hsym, hsome e (List.mem_of_getElem? hget) hb⟩
  | eos k =>
    obtain ⟨e, he, hb, hsym⟩ := hmeets
    exact .inr (.inl ⟨k, e, rfl, hsym, hsome e he hb⟩)
  | internal k => exact hmeets.elim
  | short k => exact .inr (.inr ⟨⟨k, .inl rfl⟩, hnone hmeets⟩)
  | noMatch k => exact .inr (.inr ⟨⟨k, .inr rfl⟩, hnone hmeets⟩)

/-! ### What each step of a DECODE does (R211 to R223) -/

/-- `DT.BUILD` writes the table alone of what a command reports (R140). -/
theorem dtBuild_runFrame (s : State) : RunFrame s (dtBuild s).2 := by
  have hu := (reqTable_untouched s).toRunFrame
  unfold dtBuild
  split
  · exact {}
  · split
    · exact hu.trans {}
    · exact hu

/-- A build that fails leaves the table absent (R140). -/
theorem dtBuild_failed {s : State} (h : (dtBuild s).1 = .fail) : s.dtValid = false ∧ (dtBuild s).2.dtValid = false := by
  have hu := reqTable_untouched s
  unfold dtBuild at h ⊢
  split at h
  · cases h
  · rename_i hv
    split at h
    · cases h
    · rename_i ht
      rw [if_neg hv, if_neg ht]
      exact ⟨by simpa using hv, hu.dtValid.trans (by simpa using hv)⟩

/-- All that `DEC.INIT` can be (R211). -/
theorem decInit_cases (s : State) :
    ((dtBuild s).1 = .done ∧ decInit s = (dtBuild s).2.withPhase .decStart) ∨
      ((dtBuild s).1 = .fail ∧ decInit s = endCommand .initializationFailed s.outPtr 0
        (if s.outPtr = nullHandle then 0 else s.outCap) (dtBuild s).2) := by
  unfold decInit
  split
  · exact .inl ⟨‹_›, rfl⟩
  · exact .inr ⟨‹_›, rfl⟩

/-- All that the setting of the counters can be (R212). -/
theorem decCounters_ok {s t : State} (h : decCounters s = .ok t) :
    t = (s.withWork { s.work with bitsDone := .wr 0, bitsTotal := .wr (8 * s.inLen), outPos := .wr 0 }).withPhase
      (loopPhase 0 (8 * s.inLen)) := by
  obtain ⟨total, ht, h⟩ := ok_of_bind h
  cases fit_eq ht
  cases h
  rfl

/-- All that a completed `DEC.START` can be (R212). -/
theorem decStart_ok {s t : State} (h : decStart s = .ok t) :
    (s.outPtr = nullHandle ∧ (obAlloc (2 * s.inLen) decInc false s).1 = .fail ∧
        t = endCommand .outOfMemory nullHandle 0 0 (obAlloc (2 * s.inLen) decInc false s).2) ∨
      (s.outPtr = nullHandle ∧ (obAlloc (2 * s.inLen) decInc false s).1 = .done ∧
        decCounters (obAlloc (2 * s.inLen) decInc false s).2 = .ok t) ∨
      (s.outPtr ≠ nullHandle ∧ decCounters (obAdopt s.outPtr s.outCap decInc false s) = .ok t) := by
  obtain ⟨inc, hi, h⟩ := ok_of_bind h
  cases fit_eq hi
  split at h
  · rename_i hnull
    obtain ⟨size, hs, h⟩ := ok_of_bind h
    cases fit_eq hs
    simp only at h
    split at h
    · rename_i hf; cases h; exact .inl ⟨hnull, hf, rfl⟩
    · rename_i hd; exact .inr (.inl ⟨hnull, hd, h⟩)
  · exact .inr (.inr ⟨‹_›, h⟩)

/-- A scan that finds an entry goes on to emit it (R214). -/
theorem decScan_found {s t : State} {k : Nat} (hr : scanResult s = .found k) (h : decScan s = .ok t) :
    t = ((s.withWork { s.work with scanK := .wr (BitVec.ofNat 9 k) }).withRet (.scan (.found k))).withPhase .emit := by
  obtain ⟨_, -, h⟩ := ok_of_bind h
  simp only [hr] at h
  cases h
  rfl

/-- A scan that ends the loop (R214, R220, R221). -/
theorem decScan_stops_loop {s t : State}
    (hr : (∃ k, scanResult s = .eos k) ∨ ∃ k, scanResult s = .short k ∨ scanResult s = .noMatch k) (h : decScan s = .ok t) :
    ∃ k r, t = ((s.withWork { s.work with scanK := k }).withRet r).withPhase .term := by
  obtain ⟨_, -, h⟩ := ok_of_bind h
  obtain ⟨k, hr⟩ | ⟨k, hr | hr⟩ := hr <;> simp only [hr] at h <;> cases h <;> exact ⟨_, _, rfl⟩

theorem decNoMemory_ok {s t : State} (h : decNoMemory s = .ok t) :
    t = endCommand .outOfMemory s.work.obPtr.value s.work.outPos.value s.work.obCap.value s := by
  obtain ⟨_, -, h⟩ := ok_of_bind h
  cases h
  rfl

/-- All that the write of a symbol can be (R218). -/
theorem decEmitByte_ok {e : CodeEntry} {s t : State} (h : decEmitByte e s = .ok t) :
    ∃ m, writeByte s.mem s.work.obPtr.value s.work.outPos.value (BitVec.ofNat 8 e.symbol.toNat) = some m ∧
      t = ((s.withMem m).withWork { s.work with
          outPos := .wr (s.work.outPos.value + 1), obLen := .wr (s.work.outPos.value + 1),
          bitsDone := .wr (s.work.bitsDone.value + e.length.toNat) }).withPhase
        (loopPhase (s.work.bitsDone.value + e.length.toNat) s.work.bitsTotal.value) := by
  obtain ⟨_, -, h⟩ := ok_of_bind h
  obtain ⟨s1, hw, h⟩ := ok_of_bind h
  obtain ⟨pos, hp, h⟩ := ok_of_bind h
  obtain ⟨done, hd, h⟩ := ok_of_bind h
  obtain ⟨m, hm, rfl⟩ := outWrite_ok hw
  cases fit_eq hp
  cases fit_eq hd
  cases h
  exact ⟨m, hm, rfl⟩

/-- All that a completed `DEC.EMIT` of the entry found can be (R218, R223). -/
theorem emitFound_ok {s t : State} {e : CodeEntry} (hget : s.dt[s.work.scanK.value.toNat]? = some e) (h : emitFound s = .ok t) :
    ∃ r u, obEnsure s.work.outPos.value s = .ok (r, u) ∧
      ((r = .fail ∧ decNoMemory u = .ok t) ∨ (r = .done ∧ e.symbol.toNat ≤ 255 ∧ decEmitByte e u = .ok t)) := by
  obtain ⟨_, -, h⟩ := ok_of_bind h
  obtain ⟨e', he, h⟩ := ok_of_bind h
  unfold dtAt at he
  split at he
  · rw [hget] at he
    cases he
    split at h
    · cases h
    · obtain ⟨_, -, h⟩ := ok_of_bind h
      obtain ⟨⟨r, u⟩, hens, h⟩ := ok_of_bind h
      cases r with
      | fail => exact ⟨_, u, hens, .inl ⟨rfl, h⟩⟩
      | done => exact ⟨_, u, hens, .inr ⟨rfl, by omega, h⟩⟩
  · cases he

/-- All that a completed `DEC.TERM` can be (R219, R223). -/
theorem decTerm_ok {s t : State} (h : decTerm s = .ok t) :
    ∃ r u, obEnsure s.work.outPos.value s = .ok (r, u) ∧
      ((r = .fail ∧ decNoMemory u = .ok t) ∨ (r = .done ∧
        ∃ m, writeByte u.mem u.work.obPtr.value u.work.outPos.value 0 = some m ∧
          t = endCommand .ok u.work.obPtr.value u.work.outPos.value u.work.obCap.value (u.withMem m))) := by
  obtain ⟨_, -, h⟩ := ok_of_bind h
  obtain ⟨⟨r, u⟩, hens, h⟩ := ok_of_bind h
  cases r with
  | fail => exact ⟨_, u, hens, .inl ⟨rfl, h⟩⟩
  | done =>
    obtain ⟨_, -, h⟩ := ok_of_bind h
    obtain ⟨s1, hw, h⟩ := ok_of_bind h
    obtain ⟨m, hm, rfl⟩ := outWrite_ok hw
    cases h
    exact ⟨_, u, hens, .inr ⟨rfl, m, hm, rfl⟩⟩

/-! ### The invariant of a DECODE -/

/-- The region `h` of `m` holds the first `len` symbols of the parse of the input of `s₀`, each a byte. -/
def HoldsSymbols (s₀ : State) (m : Memory) (h len : Nat) : Prop :=
  ∀ i, i < len → ∃ v, (parse s₀.rom (inputByte s₀) s₀.inLen)[i]? = some v ∧ v ≤ 255 ∧
    readByte m h i = some (BitVec.ofNat 8 v)

/-- The parse has as many symbols. -/
theorem HoldsSymbols.le_length {s₀ : State} {m : Memory} {h len : Nat} (hs : HoldsSymbols s₀ m h len) :
    len ≤ (parse s₀.rom (inputByte s₀) s₀.inLen).length := by
  by_contra hlt
  obtain ⟨v, hv, -⟩ := hs _ (Nat.not_le.1 hlt)
  simp at hv

/-- From the acceptance in `s₀` to `s`, in which the DECODE has its region: that region alone has changed, it holds the symbols
decoded, and `rest` is what the parse has after them. -/
structure DecodeProgress (s₀ s : State) (rest : List Nat) : Prop extends RunFrame s₀ s where
  output : OnlyOutput s₀.mem s₀.outPtr s.mem s.work.obPtr.value
  symbols : HoldsSymbols s₀ s.mem s.work.obPtr.value s.work.outPos.value
  rest : (parse s₀.rom (inputByte s₀) s₀.inLen).drop s.work.outPos.value = rest

/-- What the parse has from bit position `p` on, with fuel enough. -/
def RestFrom (s₀ : State) (p : Nat) (rest : List Nat) : Prop :=
  ∃ fuel, 8 * s₀.inLen - p ≤ fuel ∧ rest = parseFrom s₀.rom (inputByte s₀) s₀.inLen fuel p

/-- A DECODE reports a live region from ALLOCATOR, in which the first `RES_LEN` symbols of the parse stand (R218, R224). -/
structure ReportsSymbols (s₀ t : State) : Prop where
  built : t.dtValid = true
  notNull : t.resPtr ≠ nullHandle
  output : OnlyOutput s₀.mem s₀.outPtr t.mem t.resPtr
  symbols : HoldsParse s₀ t
  region : ∃ r, regionGet t.mem t.resPtr = some r ∧ r.granted = true ∧ r.cap = t.resCap

/-- The ends of a DECODE (R231). -/
def DecodeResult (s₀ t : State) : Prop :=
  (t.resKind = 0 ∧ ReportsSymbols s₀ t ∧ t.resLen < t.resCap ∧
      t.resLen = (parse s₀.rom (inputByte s₀) s₀.inLen).length ∧ readByte t.mem t.resPtr t.resLen = some 0) ∨
    (t.resKind = 1 ∧ t.dtValid = true ∧ t.resPtr = nullHandle ∧ s₀.outPtr = nullHandle ∧ t.resLen = 0 ∧ t.resCap = 0 ∧
      t.mem = s₀.mem) ∨
    (t.resKind = 1 ∧ ReportsSymbols s₀ t ∧ t.resLen = t.resCap) ∨
    (t.resKind = 2 ∧ s₀.dtValid = false ∧ t.dtValid = false ∧ t.mem = s₀.mem ∧ t.resPtr = s₀.outPtr ∧ t.resLen = 0 ∧
      t.resCap = if s₀.outPtr = nullHandle then 0 else s₀.outCap)

/-- What holds in each PHASE of a DECODE accepted in `s₀`. -/
def DecodeStage (s₀ s : State) : Prop :=
  match s.phase with
  | .decInit => Untouched s₀ s ∧ s.mem = s₀.mem
  | .decStart => RunFrame s₀ s ∧ s.mem = s₀.mem
  | .scanning => ∃ rest, RestFrom s₀ s.work.bitsDone.value rest ∧ DecodeProgress s₀ s rest
  | .emit =>
    ∃ e rest, s.dt[s.work.scanK.value.toNat]? = some e ∧ RestFrom s₀ (s.work.bitsDone.value + e.length.toNat) rest ∧
      DecodeProgress s₀ s (e.symbol.toNat :: rest)
  | .term => DecodeProgress s₀ s []
  | .idle => RunFrame s₀ s ∧ DecodeResult s₀ s
  | _ => False

/-! ### Each step of a DECODE keeps its invariant -/

section
variable {s₀ s t : State}

/-- What is written outside the regions and the registers of the controller does not matter to the progress of a DECODE. -/
theorem DecodeProgress.update {rest : List Nat} (h : DecodeProgress s₀ s rest) (hf : RunFrame s t)
    (hmem : t.mem = s.mem := by rfl) (hptr : t.work.obPtr = s.work.obPtr := by rfl) (hpos : t.work.outPos = s.work.outPos := by rfl) :
    DecodeProgress s₀ t rest where
  toRunFrame := h.toRunFrame.trans hf
  output := by rw [hmem, hptr]; exact h.output
  symbols := by rw [hmem, hptr, hpos]; exact h.symbols
  rest := by rw [hpos]; exact h.rest

/-- Where the input is exhausted nothing is left of the parse. -/
theorem RestFrom.eq_nil {p : Nat} {rest : List Nat} (h : RestFrom s₀ p rest) (hp : 8 * s₀.inLen ≤ p) : rest = [] := by
  obtain ⟨fuel, -, rfl⟩ := h
  exact parseFrom_of_le fuel hp

/-- The loop of R210 goes on with what is left of the parse. -/
theorem loop_stage {rest : List Nat} (h : DecodeProgress s₀ s rest) (hrest : RestFrom s₀ s.work.bitsDone.value rest)
    (htotal : s.work.bitsTotal.value = 8 * s₀.inLen) :
    DecodeStage s₀ (s.withPhase (loopPhase s.work.bitsDone.value s.work.bitsTotal.value)) := by
  unfold loopPhase
  split
  · exact ⟨rest, hrest, h.update {}⟩
  · cases hrest.eq_nil (by omega)
    exact h.update {}

theorem decInit_stage (hu : Untouched s₀ s) (hmem : s.mem = s₀.mem) : DecodeStage s₀ (decInit s) := by
  have hframe := hu.toRunFrame.trans (dtBuild_runFrame s)
  obtain ⟨-, ht⟩ | ⟨hf, ht⟩ := decInit_cases s
  · rw [ht]
    exact ⟨hframe.trans {}, (dtBuild_mem s).trans hmem⟩
  · obtain ⟨habsent, hstill⟩ := dtBuild_failed hf
    rw [ht, hu.outPtr, hu.outCap]
    exact ⟨hframe.trans (endCommand_untouched ..).toRunFrame, .inr (.inr (.inr ⟨rfl, hu.dtValid ▸ habsent, hstill,
      (dtBuild_mem s).trans hmem, rfl, rfl, rfl⟩))⟩

/-- The loop begins, with nothing decoded (R212). -/
theorem decCounters_stage (hf : RunFrame s₀ s) (hout : OnlyOutput s₀.mem s₀.outPtr s.mem s.work.obPtr.value)
    (h : decCounters s = .ok t) : DecodeStage s₀ t := by
  rw [decCounters_ok h]
  refine loop_stage (s := s.withWork _) (rest := parse s₀.rom (inputByte s₀) s₀.inLen) ?_ ⟨8 * s₀.inLen, by omega, rfl⟩
    (congrArg (8 * ·) hf.inLen)
  exact { toRunFrame := hf.trans {}, output := hout, symbols := fun i hi => absurd hi (Nat.not_lt_zero i), rest := rfl }

theorem decStart_stage (hf : RunFrame s₀ s) (hmem : s.mem = s₀.mem) (hbuilt : s.dtValid = true) (h : decStart s = .ok t) :
    DecodeStage s₀ t := by
  have halloc := obAlloc_untouched (2 * s.inLen) decInc false s
  obtain ⟨hnull, hfail, rfl⟩ | ⟨hnull, hdone, h⟩ | ⟨hne, h⟩ := decStart_ok h
  · exact ⟨(hf.trans halloc.toRunFrame).trans (endCommand_untouched ..).toRunFrame, .inr (.inl ⟨rfl,
      halloc.dtValid.trans hbuilt, rfl, hf.outPtr ▸ hnull, rfl, rfl, (obAlloc_denied hfail).trans hmem⟩)⟩
  · have hout := (obAlloc_output hdone s₀.outPtr).1
    rw [hmem] at hout
    exact decCounters_stage (hf.trans halloc.toRunFrame) hout h
  · refine decCounters_stage (s := obAdopt s.outPtr s.outCap decInc false s) (hf.trans {}) ?_ h
    exact ⟨.inl hf.outPtr, fun g _ => .inl (congrArg (regionGet · g) hmem)⟩

/-- The input of a DECODE reads as at its acceptance. -/
theorem DecodeProgress.inputByte_eq {rest : List Nat} (h : DecodeProgress s₀ s rest) (hin : InputLive s)
    (hapart : s.work.obPtr.value ≠ s.inPtr) : inputByte s = inputByte s₀ := by
  refine inputByte_congr h.inPtr ?_
  obtain ⟨r, hr, -⟩ := hin
  rw [h.inPtr] at hr hapart
  obtain he | ⟨-, hnone⟩ := h.output.others _ hapart.symm
  · exact he
  · rw [hnone] at hr; cases hr

theorem decScan_stage (hrom : RomWf s.rom) (hdt : DtSound s) (hready : DecReady s)
    (hlt : s.work.bitsDone.value < s.work.bitsTotal.value) {rest : List Nat} (hrest : RestFrom s₀ s.work.bitsDone.value rest)
    (h : DecodeProgress s₀ s rest) (hok : decScan s = .ok t) : DecodeStage s₀ t := by
  have htotal := hready.total
  obtain ⟨hin, hapart⟩ := hready.input.resolve_left fun h0 => by omega
  have hcases := scanResult_cases hrom hdt hready hlt
  rw [h.inputByte_eq hin hapart, h.rom, h.inLen] at hcases
  rw [h.inLen] at htotal
  obtain ⟨fuel, hfuel, rfl⟩ := hrest
  obtain ⟨k, e, hr, hget, hsym, hentry⟩ | ⟨k, e, hr, hsym, hentry⟩ | ⟨hr, hentry⟩ := hcases
  · have hlen := (hrom.wf2 e (mem_rom_of_dt hdt hready.built hget)).1
    obtain ⟨fuel', hfuel', hparse⟩ := parseFrom_of_symbol (by omega) hfuel hentry hsym (by omega)
    rw [decScan_found hr hok]
    rw [hparse] at h
    exact ⟨e, _, hget, ⟨fuel', hfuel', rfl⟩, h.update {}⟩
  · rw [parseFrom_of_eos fuel hentry hsym] at h
    obtain ⟨k, r, rfl⟩ := decScan_stops_loop (.inl ⟨k, hr⟩) hok
    exact h.update {}
  · rw [parseFrom_of_none fuel hentry] at h
    obtain ⟨k, r, rfl⟩ := decScan_stops_loop (.inr hr) hok
    exact h.update {}

/-- Growing the region keeps what a DECODE has written (R168). -/
theorem DecodeProgress.ensured {rest : List Nat} (h : DecodeProgress s₀ s rest) (hready : DecReady s) (hm : Memory.wf s.mem)
    {idx : Nat} (hok : obEnsure idx s = .ok (.done, t)) (hpos : t.work.outPos = s.work.outPos) :
    DecodeProgress s₀ t rest := by
  have hkept := obEnsure_kept hm hready.ob hok
  have hfull : s.work.outPos.value ≤ s.work.obCap.value := hready.len ▸ hready.ob.len
  refine {
    toRunFrame := h.toRunFrame.trans (obEnsure_untouched hok).toRunFrame
    output := h.output.grow hkept
    symbols := fun i hi => ?_
    rest := by rw [hpos]; exact h.rest }
  rw [hpos] at hi
  rw [hkept.bytes i (by omega)]
  exact h.symbols i hi

/-- A denied growth ends the command with the full region (R223). -/
theorem decNoMemory_stage {rest : List Nat} (h : DecodeProgress s₀ s rest) (hready : DecReady s)
    (hens : obEnsure s.work.outPos.value s = .ok (.fail, t)) {u : State} (hok : decNoMemory t = .ok u) : DecodeStage s₀ u := by
  obtain ⟨hfull, hmem, hwork⟩ := obEnsure_denied hens
  have hu := obEnsure_untouched hens
  have hle : s.work.outPos.value ≤ s.work.obCap.value := hready.len ▸ hready.ob.len
  rw [decNoMemory_ok hok, hwork]
  refine ⟨(h.toRunFrame.trans hu.toRunFrame).trans (endCommand_untouched ..).toRunFrame, .inr (.inr (.inl ⟨rfl, ?_,
    Nat.le_antisymm hle hfull⟩))⟩
  exact {
    built := hu.dtValid.trans hready.built
    notNull := hready.ob.notNull
    output := by rw [endCommand_mem, hmem]; exact h.output
    symbols := by unfold HoldsParse; rw [endCommand_mem, hmem]; exact h.symbols
    region := by rw [endCommand_mem, hmem]; exact hready.ob.region }

/-- The symbol written is the next of the parse (R218, R224). -/
theorem decEmitByte_stage {e : CodeEntry} {rest : List Nat} (hsym : e.symbol.toNat ≤ 255)
    (htotal : s.work.bitsTotal.value = 8 * s₀.inLen) (hrest : RestFrom s₀ (s.work.bitsDone.value + e.length.toNat) rest)
    (h : DecodeProgress s₀ s (e.symbol.toNat :: rest)) (hok : decEmitByte e s = .ok t) : DecodeStage s₀ t := by
  obtain ⟨m, hw, rfl⟩ := decEmitByte_ok hok
  obtain ⟨hnext, hdrop⟩ := getElem?_and_drop_succ h.rest
  refine loop_stage (s := (s.withMem m).withWork _) ?_ hrest htotal
  refine { toRunFrame := h.toRunFrame.trans {}, output := h.output.write hw, symbols := fun i hi => ?_, rest := hdrop }
  replace hi : i < s.work.outPos.value + 1 := hi
  by_cases heq : i = s.work.outPos.value
  · rw [heq]
    exact ⟨_, hnext, hsym, readByte_writeByte_same hw⟩
  · obtain ⟨v, hv, hle, hread⟩ := h.symbols i (by omega)
    exact ⟨v, hv, hle, (readByte_writeByte_other hw fun hc => heq hc.2).trans hread⟩

theorem emitFound_stage (hm : Memory.wf s.mem) (hroom : Room s) (hready : DecReady s) {e : CodeEntry} {rest : List Nat}
    (hget : s.dt[s.work.scanK.value.toNat]? = some e)
    (hrest : RestFrom s₀ (s.work.bitsDone.value + e.length.toNat) rest)
    (h : DecodeProgress s₀ s (e.symbol.toNat :: rest)) (hok : emitFound s = .ok t) : DecodeStage s₀ t := by
  obtain ⟨r, u, hens, ⟨rfl, hok⟩ | ⟨rfl, hsym, hok⟩⟩ := emitFound_ok hget hok
  · exact decNoMemory_stage h hready hens hok
  · have hensured := ensured_of_done (hready.ensure hroom) hens
    have hdone : u.work.bitsDone = s.work.bitsDone := by rw [hensured.work]
    have htotal : u.work.bitsTotal.value = 8 * s₀.inLen := by rw [hensured.work, ← h.inLen]; exact hready.total
    exact decEmitByte_stage hsym htotal (hdone.symm ▸ hrest) (h.ensured hready hm hens (by rw [hensured.work])) hok

/-- The terminator stands after the whole parse (R219, R224). -/
theorem decTerm_stage (hm : Memory.wf s.mem) (hroom : Room s) (hready : DecReady s) (h : DecodeProgress s₀ s [])
    (hok : decTerm s = .ok t) : DecodeStage s₀ t := by
  obtain ⟨r, u, hens, ⟨rfl, hok⟩ | ⟨rfl, m, hw, rfl⟩⟩ := decTerm_ok hok
  · exact decNoMemory_stage h hready hens hok
  · have hensured := ensured_of_done (hready.ensure hroom) hens
    have hpos : u.work.outPos = s.work.outPos := by rw [hensured.work]
    have hu := h.ensured hready hm hens hpos
    have hcount : u.work.outPos.value = (parse s₀.rom (inputByte s₀) s₀.inLen).length :=
      Nat.le_antisymm hu.symbols.le_length (List.drop_eq_nil_iff.1 hu.rest)
    refine ⟨hu.toRunFrame.trans {}, .inl ⟨rfl, ?_, hpos ▸ hensured.room, hcount, readByte_writeByte_same hw⟩⟩
    exact {
      built := (hensured.decReady hready).built
      notNull := hensured.ob.notNull
      output := hu.output.write hw
      symbols := fun i hi => by
        obtain ⟨v, hv, hle, hread⟩ := hu.symbols i hi
        exact ⟨v, hv, hle, (readByte_writeByte_other hw fun hc => Nat.ne_of_lt hi hc.2).trans hread⟩
      region := SameRegions.granted (regionGet_writeByte hw) hensured.ob.region }

/-- A step of a DECODE in its invariant keeps what its PHASE says. -/
theorem coreStep_decodeStage (hinv : CommandInv s) (h : DecodeStage s₀ s) (hok : coreStep s = .ok t) : DecodeStage s₀ t := by
  obtain ⟨hsound, -, hrange, hphase⟩ := hinv
  have hroom := room_of_range hsound.fits.width hrange
  unfold PhaseInv at hphase
  unfold DecodeStage at h
  unfold coreStep at hok
  cases hp : s.phase <;> simp only [hp] at hphase h hok
  case decInit => cases hok; exact decInit_stage h.1 h.2
  case decStart => exact decStart_stage h.1 h.2 hphase.2 hok
  case scanning =>
    obtain ⟨rest, hrest, hprog⟩ := h
    exact decScan_stage hsound.rom hsound.dt hphase.1 hphase.2 hrest hprog hok
  case emit =>
    obtain ⟨e, rest, hget, hrest, hprog⟩ := h
    exact emitFound_stage hsound.mem hroom hphase.1 hget hrest hprog hok
  case term => exact decTerm_stage hsound.mem hroom hphase h hok

end

/-- An admitted DECODE ends with one of its results (R231). -/
theorem decode_ends {s : State} (hs : Sound s) (ha : admission .decode s = none) :
    ∃ t, exec .decode s = .next t ∧ Ended t ∧ RunFrame s t ∧ DecodeResult s t := by
  have hstart : DecodeStage s (accept .decode s) := ⟨beginCommand_untouched .decInit s, rfl⟩
  obtain ⟨t, ht, hend, hstage⟩ := command_ends hs ha hstart fun _ u v hinv h hok => coreStep_decodeStage hinv h hok
  unfold DecodeStage at hstage
  rw [hend.phase] at hstage
  exact ⟨t, ht, hend, hstage⟩

/-- The end of a DECODE reports the only region it changed, or has changed none. -/
theorem DecodeResult.output {s t : State} (h : DecodeResult s t) :
    OnlyOutput s.mem s.outPtr t.mem t.resPtr ∨ t.mem = s.mem := by
  obtain ⟨-, hr, -⟩ | ⟨-, -, -, -, -, -, hm⟩ | ⟨-, hr, -⟩ | ⟨-, -, -, hm, -⟩ := h
  · exact .inl hr.output
  · exact .inr hm
  · exact .inl hr.output
  · exact .inr hm

/-- Every region live before but the supplied one is as it was (R63, R229). -/
theorem DecodeResult.kept {s t : State} (h : DecodeResult s t) {g : Nat} (hg : isLive s.mem g = true) (hne : g ≠ s.outPtr) :
    regionGet t.mem g = regionGet s.mem g := by
  obtain ho | hm := h.output
  · exact ho.kept hg hne
  · rw [hm]

/-- There is no new region but the one reported. -/
theorem DecodeResult.live {s t : State} (h : DecodeResult s t) {g : Nat} (hne : g ≠ t.resPtr) (hg : isLive t.mem g = true) :
    isLive s.mem g = true := by
  obtain ho | hm := h.output
  · exact ho.live hne hg
  · exact hm ▸ hg

end Sys2Proof.Machine

open Sys2Proof Sys2Proof.Machine

/-- Settles O27, access by access. -/
theorem accessOutsideARegionFaults : Obligations.AccessOutsideARegionFaults := by
  refine fun s => ⟨fun i h => inRead_of_unreadable h, fun i h => outRead_of_unreadable h,
    fun i b h => outWrite_of_unreadable h b, fun hw hne h => ?_, fun hptr hcap hpos hlt h => ?_⟩
  · exact congrArg ofRun (encFetch_of_unreadable hw hne h)
  · exact congrArg ofRun (decTerm_of_unreadable hptr hcap hpos hlt h)

/-- Settles O26: a write is where a read is (`writeByte_isSome`) and changes one byte of one region; HOST checks `inUse` first. -/
theorem bytesReadAsLastWritten : Obligations.BytesReadAsLastWritten := by
  refine ⟨readByte_isSome_iff, fun m h i b => by rw [writeByte_isSome, readByte_isSome_iff], fun m m' h i b hw => ?_,
    fun s h i b hb hc => ⟨if_pos (inUse_of_command hb hc), if_pos (inUse_of_command hb hc)⟩⟩
  refine ⟨readByte_writeByte_same hw, fun g j hne => readByte_writeByte_other hw hne, fun g => ?_⟩
  simpa [Function.comp_def] using congrArg (Option.map Prod.fst) (regionGet_writeByte hw g)

/-- Settles O46: the invariant `EncodeStage` is kept by every step, and at the end says what the result is (`encode_ends`). -/
theorem encodeNeverEndsWithAnError : Obligations.EncodeNeverEndsWithAnError := by
  intro s hs ha
  obtain ⟨t, ht, hend, hu, hkind, hres⟩ := encode_ends hs ha
  refine ⟨t, ht, hkind, hend.busy, hend.phase, hu.rom, hu.dt, hu.dtValid, hu.hostData, hu.agenda, hu.inPtr, hu.inLen,
    hu.outPtr, hu.outCap, ?_⟩
  obtain ⟨hptr, hlen, hcap, hsame⟩ | ⟨hptr, hout, hone, hle, henc, hregion⟩ := hres
  · exact ⟨fun g _ => ⟨hsame g, readByte_congr (hsame g)⟩,
      .inl ⟨hptr, hlen, hcap, fun g _ => ⟨hsame g, readByte_congr (hsame g)⟩⟩⟩
  · have hkept : ∀ g, isLive s.mem g = true → regionGet t.mem g = regionGet s.mem g := fun g hlive =>
      hout.kept hlive fun hg => by simp [isLive, hg, regionGet_null hs.mem] at hlive
    exact ⟨fun g hlive => ⟨hkept g hlive, readByte_congr (hkept g hlive)⟩,
      .inr ⟨hptr, (isLive_eq_false_iff _ _).2 (hout.origin.resolve_left hptr), hone, hle, henc, hregion,
        fun g hg => hout.same hs.mem hg⟩⟩

/-- Settles O55: the invariant `DecodeStage` is kept by every step, and at the end says what the result is (`decode_ends`). -/
theorem decodeEndsAsTabled : Obligations.DecodeEndsAsTabled := by
  intro s hs ha
  obtain ⟨t, ht, hend, hf, hres⟩ := decode_ends hs ha
  have htable := (runCommand_engineMove (c := .decode) ht).toTableMove
  refine ⟨t, ht, hend.busy, hend.phase, hf.rom, fun hv => (htable.built hv).symm, hf.hostData, hf.agenda, hf.inPtr, hf.inLen,
    hf.outPtr, hf.outCap, fun g hg hne => ⟨hres.kept hg hne, readByte_congr (hres.kept hg hne)⟩,
    fun g hne hg => hres.live hne hg, ?_⟩
  obtain ⟨hk, hr, hlt, hlen, hterm⟩ | ⟨hk, hv, hptr, hnull, hlen, hcap, -⟩ | ⟨hk, hr, hfull⟩ | hfailed := hres
  · exact .inl ⟨hk, hr.notNull, hlt, hr.built, hlen, hr.symbols, hr.region, hterm⟩
  · exact .inr (.inl ⟨hk, hv, hptr, hnull, hlen, hcap⟩)
  · exact .inr (.inr (.inl ⟨hk, hr.built, hr.notNull, hfull, hr.symbols, hr.region⟩))
  · exact .inr (.inr (.inr hfailed))
end

section
/-! PROOFS, family 30_encoding: what each decoder of an encoding space accepts, codes as bit strings, the scan and the decoder of
codes, the requests of PREWARM and ENCODE. -/

namespace Sys2Proof.Machine

open Sys2Proof

/-! ### Command words (R91, R114) -/

theorem decodeCmd_of_four_le {w : Nat} (h : 4 ≤ w) : decodeCmd w = .error .reservedBits :=
  if_pos (by omega)

/-- Words 1, 2 and 3 are the commands (R91); every other word is reserved (R114 (a)). -/
theorem decodeCmd_eq (w : Nat) : decodeCmd w =
    if w = 1 then .ok .prewarm else if w = 2 then .ok .encode else if w = 3 then .ok .decode
    else if w = 0 then .error .reservedOp else .error .reservedBits := by
  obtain hw | hw := Nat.lt_or_ge w 4
  · interval_cases w <;> rfl
  · rw [decodeCmd_of_four_le hw, if_neg (by omega), if_neg (by omega), if_neg (by omega), if_neg (by omega)]

/-- A write of a word that is no command is refused in every state (R114). -/
theorem hostWrite_of_decodeCmd_error {w : Nat} {e : DecodeError} (h : decodeCmd w = .error e) (s : State) :
    hostWrite 0 w s = .refused (.reserved e) := by
  show hostCommand w s = _
  unfold hostCommand
  rw [h]

theorem decodeCmd_ok {w : Nat} {i : Instr} (h : decodeCmd w = .ok i) : encode i = some (.cmd w) := by
  obtain hw | hw := Nat.lt_or_ge w 4
  · interval_cases w <;> cases h <;> rfl
  · rw [decodeCmd_of_four_le hw] at h; cases h

/-! ### Requests (R97) and result kinds (R94) -/

theorem decode_areqAlloc (size : Nat) (zero : Bool) :
    decode (.areq 1 [size, encodeZero zero]) = .ok (.areqAlloc size zero) := by cases zero <;> rfl

theorem decode_areqGrow (handle size : Nat) (zero : Bool) :
    decode (.areq 2 [handle, size, encodeZero zero]) = .ok (.areqGrow handle size zero) := by cases zero <;> rfl

theorem eq_encodeZero_of_decodeZero {w : Nat} {z : Bool} (h : decodeZero w = some z) : w = encodeZero z := by
  unfold decodeZero at h
  split at h
  · cases h; assumption
  · split at h
    · cases h; assumption
    · cases h

/-- A request decoded has its own words first, and then those left over. -/
theorem decodeAreq_ok {op : BitVec 3} {args rest : List Nat} {i : Instr} (h : decodeAreq op args = .ok (i, rest)) :
    ∃ ws, encode i = some (.areq op ws) ∧ args = ws ++ rest := by
  have hop : op = BitVec.ofNat 3 op.toNat := by simp
  unfold decodeAreq at h
  split at h
  case h_1 size fill rest' hn =>
    split at h
    · rename_i z hz
      cases h
      rw [hop, hn, eq_encodeZero_of_decodeZero hz]
      exact ⟨_, rfl, rfl⟩
    · cases h
  case h_2 handle size fill rest' hn =>
    split at h
    · rename_i z hz
      cases h
      rw [hop, hn, eq_encodeZero_of_decodeZero hz]
      exact ⟨_, rfl, rfl⟩
    · cases h
  case h_3 handle rest' hn => cases h; rw [hop, hn]; exact ⟨_, rfl, rfl⟩
  case h_4 rest' hn => cases h; rw [hop, hn]; exact ⟨_, rfl, rfl⟩
  all_goals cases h

theorem decodeAreq_reservedOp {op : BitVec 3} (h : op = 0 ∨ 5 ≤ op.toNat) (args : List Nat) :
    decodeAreq op args = .error .reservedOp := by
  have h0 : op.toNat = 0 ∨ 5 ≤ op.toNat := h.imp_left fun h => by rw [h]; rfl
  unfold decodeAreq
  split
  case h_8 => rfl
  all_goals omega

theorem encode_decodeKind (code : BitVec 2) (ptr len cap : Nat) :
    encode (decodeKind code ptr len cap) = some (.kind code ptr len cap) := by
  obtain rfl | rfl | rfl | rfl : code = 0 ∨ code = 1 ∨ code = 2 ∨ code = 3 := by bv_omega
  all_goals rfl

/-- Only words with nothing left over are an instruction. -/
theorem exactly_ok_iff {α : Type} {r : Except DecodeError (Instr × List α)} {i : Instr} :
    exactly r = .ok i ↔ r = .ok (i, []) := by
  obtain e | ⟨j, _ | ⟨a, as⟩⟩ := r <;> simp [exactly]

/-! ### Codes as bit strings (R99, R103, R110) -/

@[simp] theorem length_bits (e : CodeEntry) : e.bits.length = e.length.toNat := by simp [CodeEntry.bits]

theorem getElem_bits (e : CodeEntry) {j : Nat} (h : j < e.bits.length) :
    e.bits[j] = e.code.toNat.testBit (e.length.toNat - 1 - j) := by
  simp [CodeEntry.bits, BitVec.getLsbD]

/-- An entry whose bits begin with those of another has its code in front (R103). -/
theorem shiftRight_eq_of_bits_prefix {e f : CodeEntry} (he : e.code.toNat < 2 ^ e.length.toNat)
    (hf : f.code.toNat < 2 ^ f.length.toNat) (h : e.bits <+: f.bits) :
    f.code.toNat >>> (f.length.toNat - e.length.toNat) = e.code.toNat := by
  have hle := h.length_le
  rw [length_bits e, length_bits f] at hle
  refine Nat.eq_of_testBit_eq fun k => ?_
  rw [Nat.testBit_shiftRight]
  by_cases hk : k < e.length.toNat
  · have hbit := h.getElem (i := e.length.toNat - 1 - k) (by rw [length_bits e]; omega)
    rw [getElem_bits e, getElem_bits f] at hbit
    rw [show f.length.toNat - e.length.toNat + k = f.length.toNat - 1 - (e.length.toNat - 1 - k) by omega, ← hbit,
      show e.length.toNat - 1 - (e.length.toNat - 1 - k) = k by omega]
  · rw [Nat.testBit_lt_two_pow (lt_of_lt_of_le hf (Nat.pow_le_pow_right (by decide) (by omega))),
      Nat.testBit_lt_two_pow (lt_of_lt_of_le he (Nat.pow_le_pow_right (by decide) (by omega)))]

/-- In a well-formed table the bits of an entry begin those of no other entry (R103). -/
theorem eq_of_bits_prefix {rom : List CodeEntry} (hrom : RomWf rom) {e f : CodeEntry} (he : e ∈ rom) (hf : f ∈ rom)
    (h : e.bits <+: f.bits) : e = f := by
  obtain ⟨i, hi⟩ := List.mem_iff_getElem?.1 he
  obtain ⟨j, hj⟩ := List.mem_iff_getElem?.1 hf
  have hle := h.length_le
  rw [length_bits e, length_bits f] at hle
  by_cases hij : i = j
  · rw [hij, hj] at hi; exact (Option.some.inj hi).symm
  · exact absurd (shiftRight_eq_of_bits_prefix (hrom.wf3 e he) (hrom.wf3 f hf) h) (hrom.wf4 i j e f hij hi hj hle)

/-- At most one entry's code begins a bit string (R106 (b)). -/
theorem eq_of_bits_prefix_common {rom : List CodeEntry} (hrom : RomWf rom) {e f : CodeEntry} (he : e ∈ rom) (hf : f ∈ rom)
    {bits : List Bool} (hbe : e.bits <+: bits) (hbf : f.bits <+: bits) : e = f :=
  (List.prefix_or_prefix_of_prefix hbe hbf).elim (eq_of_bits_prefix hrom he hf) fun h => (eq_of_bits_prefix hrom hf he h).symm

/-! ### The decoder of codes (R113) -/

theorem findCode_some {table : List CodeEntry} {bits : List Bool} {e : CodeEntry} (h : findCode table bits = some e) :
    e ∈ table ∧ e.bits <+: bits := by
  unfold findCode at h
  exact ⟨List.mem_of_find?_eq_some h, by simpa using List.find?_some h⟩

/-- In a table of the entries of a well-formed one, the code that begins the bits is found. -/
theorem findCode_eq_some {rom table : List CodeEntry} (hrom : RomWf rom) (hsub : ∀ e ∈ table, e ∈ rom) {bits : List Bool}
    {e : CodeEntry} (he : e ∈ table) (hb : e.bits <+: bits) : findCode table bits = some e := by
  cases hf : findCode table bits with
  | none => exact absurd (List.isPrefixOf_iff_prefix.2 hb) (List.find?_eq_none.1 hf e he)
  | some f =>
    obtain ⟨hmem, hprefix⟩ := findCode_some hf
    rw [eq_of_bits_prefix_common hrom (hsub f hmem) (hsub e he) hprefix hb]

theorem findCode_eq_none_iff {table : List CodeEntry} {bits : List Bool} :
    findCode table bits = none ↔ ∀ e ∈ table, ¬ e.bits <+: bits := by
  simp [findCode]

theorem decodeCode_of_findCode {table : List CodeEntry} {bits : List Bool} {e : CodeEntry} {i : Instr}
    (hf : findCode table bits = some e) (hi : codeInstr e.symbol.toNat = some i) :
    decodeCode table bits = .ok (i, bits.drop e.length.toNat) := by
  simp [decodeCode, hf, hi]

theorem decodeCode_of_findCode_none {table : List CodeEntry} {bits : List Bool} (hf : findCode table bits = none) :
    decodeCode table bits = .error .noCode := by
  simp [decodeCode, hf]

/-- A code decoded is that of an entry of the table, and begins the bits. -/
theorem decodeCode_ok {table : List CodeEntry} {bits rest : List Bool} {i : Instr}
    (h : decodeCode table bits = .ok (i, rest)) :
    ∃ e ∈ table, codeInstr e.symbol.toNat = some i ∧ bits = e.bits ++ rest := by
  cases hf : findCode table bits with
  | none => rw [decodeCode_of_findCode_none hf] at h; cases h
  | some e =>
    obtain ⟨he, hb⟩ := findCode_some hf
    cases hi : codeInstr e.symbol.toNat with
    | none => simp [decodeCode, hf, hi] at h
    | some j =>
      rw [decodeCode_of_findCode hf hi] at h
      cases h
      refine ⟨e, he, hi, ?_⟩
      rw [← length_bits e]
      exact List.prefix_iff_eq_append.1 hb |>.symm

/-- The row of a code is the row of its symbol. -/
theorem symbol_of_mem {rom : List CodeEntry} (hrom : Wf1 rom) {e : CodeEntry} (he : e ∈ rom) :
    ∃ i, codeInstr e.symbol.toNat = some i ∧ i.symbol? = some e.symbol.toNat :=
  symbol_of_codeInstr _ (symbol_le_of_mem hrom he)

/-- The entry of a symbol is at its index (R100). -/
theorem getElem?_symbol {rom : List CodeEntry} (hrom : Wf1 rom) {e : CodeEntry} (he : e ∈ rom) :
    rom[e.symbol.toNat]? = some e := by
  obtain ⟨k, hk⟩ := List.mem_iff_getElem?.1 he
  rw [hrom.2 k e hk, hk]

/-! ### The words of an instruction (R91, R94, R97, R108) -/

theorem symbol_of_format {i : Instr} (h : i.format = .huffcode) : ∃ n, i.symbol? = some n := by
  cases i <;> cases h <;> exact ⟨_, rfl⟩

theorem encode_of_symbol {i : Instr} {n : Nat} (h : i.symbol? = some n) :
    encode i = some (.code ((romH2[n]?.map CodeEntry.bits).getD [])) := by
  cases i <;> cases h <;> rfl

theorem encode_of_mem {i : Instr} {e : CodeEntry} (he : e ∈ romH2) (h : i.symbol? = some e.symbol.toNat) :
    encode i = some (.code e.bits) := by
  rw [encode_of_symbol h, getElem?_symbol romH2_wf1 he]; rfl

theorem decode_bits {e : CodeEntry} {i : Instr} (he : e ∈ romH2) (hi : codeInstr e.symbol.toNat = some i) :
    decode (.code e.bits) = .ok i := by
  refine exactly_ok_iff.2 ?_
  rw [decodeCode_of_findCode (findCode_eq_some romH2_wf (fun _ h => h) he (List.prefix_refl _)) hi, ← length_bits e,
    List.drop_length]

/-- The words of the code row of symbol `n`. -/
theorem decode_encode_of_symbol {i : Instr} {n : Nat} (h : i.symbol? = some n) :
    ∃ w, encode i = some w ∧ w.format = i.format ∧ decode w = .ok i := by
  have hn : n < romH2.length := by
    have := symbol_le h
    rw [romH2_wf1.1]; unfold nsym; omega
  obtain ⟨e, hget⟩ : ∃ e, romH2[n]? = some e := ⟨_, List.getElem?_eq_getElem hn⟩
  have he := List.mem_of_getElem? hget
  cases romH2_wf1.2 n e hget
  exact ⟨_, encode_of_mem he h, (format_of_symbol h).symm, decode_bits he (codeInstr_of_symbol h)⟩

/-! ### The entry word (R98) -/

theorem extract_symbol (e : CodeEntry) : e.toWord.extractLsb' 38 9 = e.symbol :=
  (BitVec.extractLsb'_append_eq_of_le (by decide)).trans BitVec.extractLsb'_append_eq_left

theorem extract_length (e : CodeEntry) : e.toWord.extractLsb' 32 6 = e.length :=
  (BitVec.extractLsb'_append_eq_of_le (by decide)).trans BitVec.extractLsb'_append_eq_right

theorem extract_code (e : CodeEntry) : e.toWord.extractLsb' 0 32 = e.code := BitVec.extractLsb'_append_eq_right

theorem ofWord_toWord (e : CodeEntry) : CodeEntry.ofWord e.toWord = e := by
  unfold CodeEntry.ofWord
  rw [extract_symbol, extract_length, extract_code]

theorem toWord_ofWord (w : BitVec 47) : (CodeEntry.ofWord w).toWord = w := by
  have hhigh : w.extractLsb' 38 9 ++ w.extractLsb' 32 6 = w.extractLsb' 32 15 :=
    BitVec.extractLsb'_append_extractLsb'_eq_extractLsb' (by decide)
  calc w.extractLsb' 38 9 ++ w.extractLsb' 32 6 ++ w.extractLsb' 0 32
      = w.extractLsb' 32 15 ++ w.extractLsb' 0 32 := by rw [hhigh]
    _ = w.extractLsb' 0 47 := BitVec.extractLsb'_append_extractLsb'_eq_extractLsb' (by decide)
    _ = w := BitVec.extractLsb'_eq_self

/-! ### The scan and the decoder of codes (R106, R113, R214) -/

/-- The stream begins with the code of an entry as bits where it does as a number (R110, R215). -/
theorem bits_prefix_stream_iff {e : CodeEntry} (hcode : e.code.toNat < 2 ^ e.length.toNat) (B : Nat → Byte) (p n : Nat) :
    e.bits <+: (List.range n).map (fun j => streamBit B (p + j)) ↔ BeginsWith (streamBits B p) n e := by
  constructor
  · intro h
    have hroom : e.length.toNat ≤ n := by simpa using h.length_le
    refine ⟨hroom, streamBits_eq_of_bits hcode fun k hk => ?_⟩
    have hbit := h.getElem (i := k) (by simpa using hk)
    rw [getElem_bits] at hbit
    simpa using hbit.symm
  · rintro ⟨hroom, hnum⟩
    rw [List.prefix_iff_eq_take]
    refine List.ext_getElem (by simpa using hroom) fun j hj _ => ?_
    have hlt : j < e.length.toNat := by simpa using hj
    rw [getElem_bits, ← hnum, testBit_streamBits, show e.length.toNat - 1 - (e.length.toNat - 1 - j) = j by omega]
    simp [show e.length.toNat - 1 - j < e.length.toNat by omega]

/-- A scan compares with the stream bits (R215, R216). -/
theorem beginsWith_window {rom : List CodeEntry} (hrom : RomWf rom) {e : CodeEntry} (he : e ∈ rom) (B : Nat → Byte)
    (p remaining : Nat) : BeginsWith (window B p) remaining e ↔ BeginsWith (streamBits B p) remaining e := by
  have := (hrom.wf2 e he).2
  unfold BeginsWith
  rw [window_eq_streamBits _ _ (by omega)]

/-- No two codes of a well-formed table begin the bits a scan sees (R106 (b)). -/
theorem beginsWith_window_unique {rom : List CodeEntry} (hrom : RomWf rom) {e f : CodeEntry} (he : e ∈ rom) (hf : f ∈ rom)
    {B : Nat → Byte} {p remaining : Nat} (hbe : BeginsWith (window B p) remaining e)
    (hbf : BeginsWith (window B p) remaining f) : e = f :=
  eq_of_bits_prefix_common hrom he hf
    ((bits_prefix_stream_iff (hrom.wf3 e he) B p remaining).2 ((beginsWith_window hrom he B p remaining).1 hbe))
    ((bits_prefix_stream_iff (hrom.wf3 f hf) B p remaining).2 ((beginsWith_window hrom hf B p remaining).1 hbf))

/-- A scan that ends at symbol 256 ends at its entry. -/
theorem scanFrom_eos {win : Nat → Nat} {remaining k₀ k : Nat} {l : List CodeEntry}
    (h : scanFrom win remaining k₀ l = .eos k) :
    ∃ e, k₀ ≤ k ∧ l[k - k₀]? = some e ∧ BeginsWith win remaining e ∧ e.symbol.toNat = eosSymbol := by
  induction l generalizing k₀ with
  | nil => cases h
  | cons e es ih =>
    unfold scanFrom at h
    split at h
    · cases h
    · split at h
      · cases h
      · split at h
        · split at h
          · cases h
            exact ⟨e, le_rfl, by simp, ⟨by omega, ‹_›⟩, ‹_›⟩
          · cases h
        · obtain ⟨f, hk, hget, hrest⟩ := ih h
          refine ⟨f, by omega, ?_, hrest⟩
          rw [show k - k₀ = (k - (k₀ + 1)) + 1 by omega, List.getElem?_cons_succ]
          exact hget

/-- A table of the entries of a well-formed one, by rising length: what the decoder scans. -/
structure Scannable (rom d : List CodeEntry) : Prop where
  wf : RomWf rom
  perm : d.Perm rom
  rising : d.Pairwise fun x y => x.length.toNat ≤ y.length.toNat

theorem scannable_sortByLength {rom : List CodeEntry} (h : RomWf rom) : Scannable rom (sortByLength rom) :=
  ⟨h, sortByLength_perm rom, sortByLength_rising rom⟩

section
variable {rom d d' : List CodeEntry} {B : Nat → Byte} {p remaining k : Nat}

theorem Scannable.meets (h : Scannable rom d) (B : Nat → Byte) (p remaining : Nat) :
    ScanMeets (window B p) remaining 0 d (scanFrom (window B p) remaining 0 d) :=
  scanFrom_meets _ _ h.rising (fun e he => by
    have := (h.wf.wf2 e (h.perm.mem_iff.1 he)).2
    unfold windowMax
    omega) 0

/-- What a scan stops at, if it stops at an entry: the entry at its index, whose code the bits begin with, of symbol 256 or not. -/
theorem Scannable.stop (h : Scannable rom d) :
    (scanFrom (window B p) remaining 0 d = .found k →
      ∃ e, d[k]? = some e ∧ BeginsWith (window B p) remaining e ∧ e.symbol.toNat ≠ eosSymbol) ∧
    (scanFrom (window B p) remaining 0 d = .eos k →
      ∃ e, d[k]? = some e ∧ BeginsWith (window B p) remaining e ∧ e.symbol.toNat = eosSymbol) := by
  refine ⟨fun hr => ?_, fun hr => ?_⟩
  · have hm := h.meets B p remaining
    rw [hr] at hm
    obtain ⟨e, -, hget, hrest⟩ := hm
    exact ⟨e, hget, hrest⟩
  · obtain ⟨e, -, hget, hrest⟩ := scanFrom_eos hr
    exact ⟨e, hget, hrest⟩

/-- Where the bits begin with the code of an entry the scan stops at that entry, whatever the order of equal lengths (R106 (a)). -/
theorem Scannable.scan_of_beginsWith (h : Scannable rom d) {e : CodeEntry} (he : e ∈ rom)
    (hb : BeginsWith (window B p) remaining e) :
    ∃ k, d[k]? = some e ∧
      scanFrom (window B p) remaining 0 d = if e.symbol.toNat = eosSymbol then .eos k else .found k := by
  have hsame : ∀ f : CodeEntry, ∀ k : Nat, d[k]? = some f → BeginsWith (window B p) remaining f → f = e := fun f k hf hbf =>
    beginsWith_window_unique h.wf (h.perm.mem_iff.1 (List.mem_of_getElem? hf)) he hbf hb
  have hmeets := h.meets B p remaining
  cases hr : scanFrom (window B p) remaining 0 d with
  | found k =>
    obtain ⟨f, hget, hbf, hsym⟩ := h.stop.1 hr
    cases hsame f k hget hbf
    exact ⟨k, hget, by rw [if_neg hsym]⟩
  | eos k =>
    obtain ⟨f, hget, hbf, hsym⟩ := h.stop.2 hr
    cases hsame f k hget hbf
    exact ⟨k, hget, by rw [if_pos hsym]⟩
  | internal k => rw [hr] at hmeets; exact hmeets.elim
  | short k => rw [hr] at hmeets; exact absurd hb (hmeets e (h.perm.mem_iff.2 he))
  | noMatch k => rw [hr] at hmeets; exact absurd hb (hmeets e (h.perm.mem_iff.2 he))

/-- Two orders of a table give the scan the same entry (R106 (a)). -/
theorem Scannable.scan_eq (h : Scannable rom d) (h' : Scannable rom d') :
    (scanFrom (window B p) remaining 0 d = .found k →
      ∃ k', scanFrom (window B p) remaining 0 d' = .found k' ∧ d'[k']? = d[k]?) ∧
    (scanFrom (window B p) remaining 0 d = .eos k →
      ∃ k', scanFrom (window B p) remaining 0 d' = .eos k' ∧ d'[k']? = d[k]?) := by
  refine ⟨fun hr => ?_, fun hr => ?_⟩
  · obtain ⟨e, hget, hb, hsym⟩ := h.stop.1 hr
    obtain ⟨k', hget', hr'⟩ := h'.scan_of_beginsWith (h.perm.mem_iff.1 (List.mem_of_getElem? hget)) hb
    exact ⟨k', by rw [hr', if_neg hsym], by rw [hget, hget']⟩
  · obtain ⟨e, hget, hb, hsym⟩ := h.stop.2 hr
    obtain ⟨k', hget', hr'⟩ := h'.scan_of_beginsWith (h.perm.mem_iff.1 (List.mem_of_getElem? hget)) hb
    exact ⟨k', by rw [hr', if_pos hsym], by rw [hget, hget']⟩

end

/-- Fewer bits than the shortest code has end a scan at its first entry (R106 (c)). -/
theorem scanFrom_short {rom d : List CodeEntry} (h : Scannable rom d) {remaining : Nat} (hr : remaining < 5) (win : Nat → Nat) :
    scanFrom win remaining 0 d = .short 0 := by
  have hlen : d.length = 257 := h.perm.length_eq.trans h.wf.wf1.1
  cases d with
  | nil => cases hlen
  | cons e es =>
    have := (h.wf.wf2 e (h.perm.mem_iff.1 List.mem_cons_self)).1
    exact if_pos (by omega)

/-- Entries of equal length have different codes (R103, R106 (a)). -/
theorem code_ne_of_length_eq {rom : List CodeEntry} (hrom : RomWf rom) {e f : CodeEntry} (he : e ∈ rom) (hf : f ∈ rom)
    (hne : e ≠ f) (hlen : e.length = f.length) : e.code ≠ f.code := fun hcode =>
  hne (eq_of_bits_prefix hrom he hf (by unfold CodeEntry.bits; rw [hlen, hcode]))

/-! ### The instruction at the current bit offset (R113, R214) -/

/-- All that the check before a scan says (R23, R25, R62). -/
theorem dtValid_of_scanReady {s : State} (h : scanReady s = .ok ()) : s.dtValid = true := by
  obtain ⟨_, -, h⟩ := ok_of_bind h
  split at h
  · assumption
  · cases h

/-- No entry stands twice in a well-formed table (R100). -/
theorem nodup_of_wf1 {rom : List CodeEntry} (h : Wf1 rom) : rom.Nodup :=
  List.nodup_iff_injective_getElem.2 fun i j hij => by
    have hi := h.2 i _ (List.getElem?_eq_getElem i.2)
    have hj := h.2 j _ (List.getElem?_eq_getElem j.2)
    exact Fin.ext (hi.symm.trans ((congrArg (fun e : CodeEntry => e.symbol.toNat) hij).trans hj))

/-- The index of a symbol is that of its only entry. -/
theorem Scannable.symbolIndex_eq {rom d : List CodeEntry} (h : Scannable rom d) {k : Nat} {e : CodeEntry} (hk : d[k]? = some e) :
    symbolIndex d e.symbol.toNat = some k := by
  have hrom : ∀ f ∈ d, rom[f.symbol.toNat]? = some f := fun f hf => getElem?_symbol h.wf.wf1 (h.perm.mem_iff.1 hf)
  have hmem := List.mem_of_getElem? hk
  cases hi : symbolIndex d e.symbol.toNat with
  | none => simpa using List.findIdx?_eq_none_iff.1 hi e hmem
  | some j =>
    obtain ⟨hj, hsym, -⟩ := List.findIdx?_eq_some_iff_getElem.1 hi
    have hentry := hrom _ (List.getElem_mem hj)
    rw [beq_iff_eq.1 hsym, hrom e hmem] at hentry
    have hnd : d.Nodup := h.perm.nodup_iff.2 (nodup_of_wf1 h.wf.wf1)
    rw [List.getElem?_inj hj hnd |>.1 (by rw [hk, List.getElem?_eq_getElem hj, ← Option.some.inj hentry])]

/-- The decoder's table, once built, is a table to scan. -/
theorem Sound.scannable {s : State} (h : Sound s) (hv : s.dtValid = true) : Scannable s.rom s.dt :=
  h.dt hv ▸ scannable_sortByLength h.rom

/-- The scan of `DEC.SCAN`, of all entries of the table. -/
theorem Scannable.scanResult_eq {s : State} (h : Scannable s.rom s.dt) : scanResult s =
    scanFrom (window (inZero s) s.work.bitsDone.value) (s.work.bitsTotal.value - s.work.bitsDone.value) 0 s.dt := by
  have hlen : s.dt.length = nsym := h.perm.length_eq.trans h.wf.wf1.1
  unfold scanResult
  rw [← hlen, List.take_length]

/-- The bits ahead begin with the code of an entry as the scan compares them. -/
theorem bits_prefix_bitsAhead_iff {s : State} (hrom : RomWf s.rom) {e : CodeEntry} (he : e ∈ s.rom) :
    e.bits <+: bitsAhead s ↔
      BeginsWith (window (inZero s) s.work.bitsDone.value) (s.work.bitsTotal.value - s.work.bitsDone.value) e :=
  (bits_prefix_stream_iff (hrom.wf3 e he) _ _ _).trans (beginsWith_window hrom he _ _ _).symm

theorem codeAt_eq {s : State} (h : Scannable s.rom s.dt) {k : Nat} {e : CodeEntry} {i : Instr} (hk : s.dt[k]? = some e)
    (hi : codeInstr e.symbol.toNat = some i) : codeAt s k = i := by
  simp [codeAt, hk, h.symbolIndex_eq hk, hi]

/-- Where a code begins the bits ahead, the instruction there is its row (R113). -/
theorem streamInstr_of_prefix {s : State} (h : Scannable s.rom s.dt) {e : CodeEntry} {i : Instr} (he : e ∈ s.rom)
    (hb : e.bits <+: bitsAhead s) (hi : codeInstr e.symbol.toNat = some i) : streamInstr s = i := by
  obtain ⟨k, hk, hscan⟩ := h.scan_of_beginsWith he ((bits_prefix_bitsAhead_iff h.wf he).1 hb)
  unfold streamInstr
  rw [h.scanResult_eq, hscan]
  split_ifs <;> exact codeAt_eq h hk hi

/-- Where no code begins them it is `DEC.SCAN`. -/
theorem streamInstr_of_no_prefix {s : State} (h : Scannable s.rom s.dt) (hno : ∀ e ∈ s.dt, ¬ e.bits <+: bitsAhead s) :
    streamInstr s = .decScan := by
  have hstop : ∀ (k : Nat) (e : CodeEntry), s.dt[k]? = some e →
      ¬ BeginsWith (window (inZero s) s.work.bitsDone.value) (s.work.bitsTotal.value - s.work.bitsDone.value) e :=
    fun k e hk hb => by
      have he := List.mem_of_getElem? hk
      exact hno e he ((bits_prefix_bitsAhead_iff h.wf (h.perm.mem_iff.1 he)).2 hb)
  unfold streamInstr
  rw [h.scanResult_eq]
  split
  · rename_i k hr
    obtain ⟨e, hk, hb, -⟩ := h.stop.1 hr
    exact absurd hb (hstop k e hk)
  · rename_i k hr
    obtain ⟨e, hk, hb, -⟩ := h.stop.2 hr
    exact absurd hb (hstop k e hk)
  · rfl

/-! ### The default table (R108) -/

/-- In the canonical order a code is the one before plus one, shifted left by the growth in length (R108). -/
def CanonicalNext (e f : CodeEntry) : Prop :=
  f.code.toNat = (e.code.toNat + 1) <<< (f.length.toNat - e.length.toNat)

theorem romH2_canonical : (sortByLength romH2).IsChain CanonicalNext := by unfold CanonicalNext; decide +kernel

/-! ### The answer to `ALLOC_TABLE`, and PREWARM (R97, R140, R142 to R145) -/

theorem reqTable_of_grant {s : State} {h : Nat} {rest : List Answer} (ha : s.answers = .grant h :: rest) :
    (reqTable s).1 = true := by
  simp [reqTable, takeAnswer_cons (s := s.withRequest .allocTable) ha]

theorem reqTable_of_deny {s : State} {rest : List Answer} (ha : s.answers = .deny :: rest) : (reqTable s).1 = false := by
  simp [reqTable, takeAnswer_cons (s := s.withRequest .allocTable) ha]

theorem untilIdle_of_idle {s : State} (h : s.busy = false) (n : Nat) : untilIdle n s = .ok s := by
  cases n <;> simp [untilIdle, h]

/-- A command that ends in its first step. -/
theorem untilIdle_of_step {s t : State} (hb : s.busy = true) (hs : coreStep s = .ok t) (ht : t.busy = false) (n : Nat) :
    untilIdle (n + 1) s = .ok t := by
  simp [untilIdle, hb, hs, untilIdle_of_idle ht]

/-- A command that was accepted and has ended: only what CORE's acceptance and end write has changed (R40, R256). -/
theorem endCommand_ends (k : Kind) (ptr len cap : Nat) (s : State) (b : Bool) (p : Phase) (r : Ret) (w : Work) (n : Nat) :
    Ends s (endCommand k ptr len cap { s with busy := b, phase := p, ret := r, work := w, freeNext := n }) (kindCode k)
      ptr len cap :=
  ⟨rfl, fun x => by simp⟩

theorem admission_prewarm {s : State} (hr : s.inLen < 2 ^ (s.sizeW - 6)) :
    admission .prewarm s = if s.busy then some .commandWhileBusy else none := by
  simp [admission, inRange, hr, inputDuty, outputDuty, apartDuty]

theorem admission_outOfRange {s : State} (hr : 2 ^ (s.sizeW - 6) ≤ s.inLen) (c : Command) :
    admission c s = some .outOfRange := by
  simp [admission, inRange, Nat.not_lt.2 hr]

/-- An admitted PREWARM runs from its acceptance to its end. -/
theorem exec_prewarm {s : State} (hr : s.inLen < 2 ^ (s.sizeW - 6)) (hb : s.busy = false) :
    exec .prewarm s = ofRun (untilIdle (stepBound s) (accept .prewarm s)) := by
  show runCommand .prewarm s = _
  simp [runCommand, admission_prewarm hr, hb]

/-- PREWARM with the table built ends at its acceptance (R143). -/
theorem exec_prewarm_built {s : State} (hr : s.inLen < 2 ^ (s.sizeW - 6)) (hb : s.busy = false) (hv : s.dtValid = true) :
    exec .prewarm s = .next (endCommand .ok nullHandle 0 0 (beginCommand .idle s)) := by
  have hacc : accept .prewarm s = endCommand .ok nullHandle 0 0 (beginCommand .idle s) := by simp [accept, hv]
  rw [exec_prewarm hr hb, hacc, untilIdle_of_idle rfl, ofRun_ok]

/-- PREWARM with the table absent takes one step, its build (R142). -/
theorem exec_prewarm_absent {s : State} (hr : s.inLen < 2 ^ (s.sizeW - 6)) (hb : s.busy = false) (hv : s.dtValid = false) :
    exec .prewarm s = .next (prewarmBuild (beginCommand .build s)) := by
  have hacc : accept .prewarm s = beginCommand .build s := by simp [accept, hv]
  have hrun := untilIdle_of_step (s := beginCommand .build s) rfl rfl (prewarmBuild_ended _).busy (64 * s.inLen + 7)
  exact (exec_prewarm hr hb).trans (hacc ▸ congrArg ofRun hrun)

theorem prewarmBuild_of_grant {s : State} (hv : s.dtValid = false) (hg : (reqTable s).1 = true) :
    prewarmBuild s = endCommand .ok nullHandle 0 0 { (reqTable s).2 with dt := sortByLength s.rom, dtValid := true } := by
  simp [prewarmBuild, dtBuild, hv, hg]

theorem prewarmBuild_of_deny {s : State} (hv : s.dtValid = false) (hg : (reqTable s).1 = false) :
    prewarmBuild s = endCommand .outOfMemory nullHandle 0 0 (reqTable s).2 := by
  simp [prewarmBuild, dtBuild, hv, hg]

/-- The build of PREWARM asks once; a grant builds the table, a denial leaves it absent (R140, R142, R144). -/
theorem prewarmBuild_ends {s : State} (hv : s.dtValid = false) :
    ((reqTable (beginCommand .build s)).1 = true ∧
        Ends { s with dt := sortByLength s.rom, dtValid := true, answers := s.answers.tail,
                      requests := .allocTable :: s.requests } (prewarmBuild (beginCommand .build s)) 0 nullHandle 0 0) ∨
      ((reqTable (beginCommand .build s)).1 = false ∧
        Ends { s with answers := s.answers.tail, requests := .allocTable :: s.requests }
          (prewarmBuild (beginCommand .build s)) 1 nullHandle 0 0) := by
  cases hg : (reqTable (beginCommand .build s)).1 with
  | true =>
    refine .inl ⟨rfl, ?_⟩
    rw [prewarmBuild_of_grant (s := beginCommand .build s) hv hg, reqTable_frame]
    exact endCommand_ends .ok ..
  | false =>
    refine .inr ⟨rfl, ?_⟩
    rw [prewarmBuild_of_deny (s := beginCommand .build s) hv hg, reqTable_frame]
    exact endCommand_ends .outOfMemory ..

/-! ### Requests that are granted (R161, R162, R164) -/

/-- Among one more handles than there are regions one is free (R61). -/
theorem freshHandle_of_room {w : Nat} {m : Memory} (h : m.length + 1 < 2 ^ w) : ∃ g, freshHandle w m = some g := by
  refine Option.ne_none_iff_exists'.1 fun hnone => ?_
  have hlive : (List.range (m.length + 1)).map (· + 1) ⊆ m.map Region.handle := by
    intro g hg
    have hfree := List.find?_eq_none.1 hnone g hg
    obtain ⟨k, hk, rfl⟩ := List.mem_map.1 hg
    have hlt := List.mem_range.1 hk
    have hl : isLive m (k + 1) = true := by
      by_contra hl
      exact hfree ((handleFree_iff w m (k + 1)).2 ⟨by omega, Nat.succ_ne_zero k, by simpa using hl⟩)
    obtain ⟨r, hr⟩ := (isLive_iff m (k + 1)).1 hl
    exact List.mem_map.2 ⟨r, regionGet_mem hr, regionGet_handle hr⟩
  have hnd : ((List.range (m.length + 1)).map (· + 1)).Nodup := List.nodup_range.map (add_left_injective 1)
  have hle := (List.subperm_of_subset hnd hlive).length_le
  simp at hle

theorem reqAlloc_granted {s : State} {h : Nat} {rest : List Answer} (ha : s.answers = .grant h :: rest)
    (hroom : s.mem.length + 1 < 2 ^ s.sizeW) (size : Nat) (zero : Bool) : ∃ g, (reqAlloc size zero s).1 = some g := by
  obtain ⟨g, hg⟩ : ∃ g, allocHandle s.sizeW s.mem h = some g := by
    unfold allocHandle
    split
    · exact ⟨h, rfl⟩
    · exact freshHandle_of_room hroom
  exact ⟨g, by simp [reqAlloc, takeAnswer_cons (s := s.withRequest (.alloc size zero)) ha, hg]⟩

theorem reqGrow_granted {s : State} {g h : Nat} {r : Region} {rest : List Answer} (ha : s.answers = .grant g :: rest)
    (hr : regionGet s.mem h = some r) (size : Nat) (zero : Bool) : ∃ g', (reqGrow h size zero s).1 = some g' :=
  ⟨growHandle s.sizeW s.mem h g, by simp only [reqGrow, takeAnswer_cons (s := s.withRequest (.grow h size zero)) ha, hr]⟩

/-- `OB.ALLOC` with a grant to come takes it for its one request (R165). -/
theorem obAlloc_granted {s : State} {h : Nat} {rest : List Answer} (ha : s.answers = .grant h :: rest)
    (hroom : s.mem.length + 1 < 2 ^ s.sizeW) (size inc : Nat) (zero : Bool) :
    (obAlloc size inc zero s).1 = .done ∧ (obAlloc size inc zero s).2.answers = rest ∧
      (obAlloc size inc zero s).2.requests = .alloc size zero :: s.requests ∧
      (obAlloc size inc zero s).2.work.obCap = .wr size := by
  obtain ⟨g, hg⟩ := reqAlloc_granted ha hroom size zero
  obtain ⟨-, hn, -⟩ | ⟨g', hd, -, ht⟩ := obAlloc_cases size inc zero s
  · rw [hn] at hg; cases hg
  · rw [hd, ht, reqAlloc_frame]
    exact ⟨rfl, congrArg List.tail ha, rfl, rfl⟩

/-- `OB.ENSURE` with a grant to come succeeds: no request below the capacity, else one for a growth (R167, R168). -/
theorem obEnsure_granted {idx : Nat} {s t : State} {r : Ob} (h : obEnsure idx s = .ok (r, t))
    (hgrant : s.work.obCap.value ≤ idx → ∃ g rest, s.answers = .grant g :: rest) :
    r = .done ∧
      ((t.answers = s.answers ∧ t.requests = s.requests ∧ t.work.obCap.value = s.work.obCap.value) ∨
        (s.work.obCap.value ≤ idx ∧ t.answers = s.answers.tail ∧ t.requests.length = s.requests.length + 1 ∧
          t.work.obCap.value = s.work.obCap.value + s.work.obInc.value)) := by
  obtain ⟨-, hr, rfl⟩ | ⟨hle, hgrow⟩ := obEnsure_ok h
  · exact ⟨hr, .inl ⟨rfl, rfl, rfl⟩⟩
  · obtain ⟨g, rest, ha⟩ := hgrant hle
    obtain ⟨size, hsize, hlive, hcase⟩ := obGrow_ok hgrow
    obtain ⟨q, hq, -⟩ := (growable_iff _ _ _).1 hlive
    obtain ⟨g', hg'⟩ := reqGrow_granted ha hq size (obZeroFlag s)
    obtain ⟨-, hn, -⟩ | ⟨g'', hr, -, rfl⟩ := hcase
    · rw [hn] at hg'; cases hg'
    · cases fit_eq hsize
      rw [reqGrow_frame]
      exact ⟨hr, .inr ⟨hle, rfl, rfl, rfl⟩⟩

/-! ### The requests of an ENCODE that are all granted (R172, R192) -/

/-- Since the acceptance in `s₀` one request has obtained the region and each growth to the capacity `cap` has taken one more,
each with an answer of its own. -/
def Granted (s₀ s : State) (cap : Nat) : Prop :=
  ∃ g, cap = cap0 s₀.inLen + 100 * g ∧ s.requests.length = s₀.requests.length + 1 + g ∧ s.answers = s₀.answers.drop (1 + g)

/-- What holds in each PHASE of an ENCODE accepted in `s₀` when every request is granted. -/
def GrantedStage (s₀ s : State) : Prop :=
  match s.phase with
  | .encAlloc => s.requests = s₀.requests ∧ s.answers = s₀.answers
  | .encFetch => Granted s₀ s s.work.obCap.value
  | .encPack => Granted s₀ s s.work.obCap.value
  | .encPad => Granted s₀ s s.work.obCap.value
  | .idle => s.resPtr ≠ nullHandle ∧ Granted s₀ s s.resCap
  | _ => False

/-- Of the next `n` answers each is a grant. -/
theorem Grants.next {n k : Nat} {s : State} (h : Grants n s) (hk : k < n) :
    ∃ g, s.answers.drop k = .grant g :: s.answers.drop (k + 1) := by
  obtain ⟨hlen, hgrant, -⟩ := h
  have hlt : k < s.answers.length := by omega
  rw [List.drop_eq_getElem_cons hlt]
  cases ha : s.answers[k] with
  | deny => exact absurd ha (hgrant _ (List.getElem_mem hlt))
  | grant g => exact ⟨g, rfl⟩

section
variable {s₀ s t : State}

theorem encAlloc_grantedStage (hg : Grants (s₀.inLen + 2) s₀) (hu : Untouched s₀ s) (hmem : s.mem = s₀.mem)
    (hreq : s.requests = s₀.requests) (hans : s.answers = s₀.answers) (hok : encAlloc s = .ok t) : GrantedStage s₀ t := by
  obtain ⟨g, hnext⟩ := hg.next (k := 0) (by omega)
  have hroom : s.mem.length + 1 < 2 ^ s.sizeW := by rw [hmem, hu.sizeW]; exact hg.2.2
  obtain ⟨hd, ha, hr, hc⟩ := obAlloc_granted (hans.trans hnext) hroom (cap0 s.inLen) encInc true
  obtain ⟨hf, -⟩ | ⟨-, rfl⟩ := encAlloc_ok hok
  · rw [hd] at hf; cases hf
  · refine ⟨0, ?_, ?_, ha⟩
    · show (obAlloc (cap0 s.inLen) encInc true s).2.work.obCap.value = cap0 s₀.inLen
      rw [hc, hu.inLen, WReg.wr_value]
    · show (obAlloc (cap0 s.inLen) encInc true s).2.requests.length = s₀.requests.length + 1
      rw [hr, hreq, List.length_cons]

/-- The capacity an ENCODE has reached when it grows leaves one more grant: at most `IN_LEN` growths come before (R96, R101). -/
theorem Granted.next_answer (hg : Grants (s₀.inLen + 2) s₀) (h : Granted s₀ s s.work.obCap.value) (hready : EncReady s)
    (hlen : s.inLen = s₀.inLen) (hfull : s.work.obCap.value ≤ s.work.bitsSet.value / 8) :
    ∃ g rest, s.answers = .grant g :: rest := by
  obtain ⟨n, hcap, -, hans⟩ := h
  have hbits := hready.bits_le
  obtain ⟨g, hnext⟩ := hg.next (k := 1 + n) (by omega)
  exact ⟨g, _, hans.trans hnext⟩

theorem encPack_grantedStage (hg : Grants (s₀.inLen + 2) s₀) (hlen : s.inLen = s₀.inLen) (hready : EncReady s)
    (h : Granted s₀ s s.work.obCap.value) (hok : encPack s = .ok t) : GrantedStage s₀ t := by
  have hinc : s.work.obInc.value = 100 := hready.inc
  obtain ⟨_, -, hok⟩ := ok_of_bind hok
  obtain ⟨⟨r, u⟩, he, hok⟩ := ok_of_bind hok
  obtain ⟨rfl, hcase⟩ := obEnsure_granted he (h.next_answer hg hready hlen)
  obtain ⟨old, m, -, -, rfl⟩ := encPackByte_ok hok
  have hu : Granted s₀ u u.work.obCap.value := by
    obtain ⟨n, hcap, hreq, hans⟩ := h
    obtain ⟨ha, hr, hc⟩ | ⟨-, ha, hr, hc⟩ := hcase
    · exact ⟨n, hc.trans hcap, by rw [hr, hreq], ha.trans hans⟩
    · exact ⟨n + 1, by omega, by omega, by rw [ha, hans, List.tail_drop]; rfl⟩
  unfold GrantedStage
  split_ifs <;> exact hu

/-- A step of an ENCODE in its invariant, every request granted, keeps what its PHASE says of the requests. -/
theorem coreStep_grantedStage (hg : Grants (s₀.inLen + 2) s₀) (hinv : CommandInv s) (he : EncodeStage s₀ s)
    (h : GrantedStage s₀ s) (hok : coreStep s = .ok t) : GrantedStage s₀ t := by
  have hphase := hinv.phase
  unfold PhaseInv at hphase
  unfold EncodeStage at he
  unfold GrantedStage at h
  unfold coreStep at hok
  cases hp : s.phase <;> simp only [hp] at hphase he h hok
  case encAlloc => exact encAlloc_grantedStage hg he.1 he.2 h.1 h.2 hok
  case encFetch =>
    obtain ⟨-, rfl⟩ | ⟨b, e, -, -, rfl⟩ := encFetch_ok hok
    · exact h
    · exact h
  case encPack => exact encPack_grantedStage hg he.1.inLen hphase.1 h hok
  case encPad =>
    obtain ⟨m, -, -, -, rfl⟩ := encPad_ok hok
    exact ⟨hphase.1.ob.notNull, h⟩

end

/-- An admitted ENCODE of at least one byte with every request granted ends with the encoding, and its requests are those its
capacity took (R172, R187, R192). -/
theorem encode_granted_ends {s : State} (hs : Sound s) (ha : admission .encode s = none) (hptr : s.inPtr ≠ nullHandle)
    (hlen : s.inLen ≠ 0) (hg : Grants (s.inLen + 2) s) :
    ∃ t, exec .encode s = .next t ∧ t.resKind = 0 ∧ t.resPtr ≠ nullHandle ∧ Encoded s t ∧ Granted s t t.resCap := by
  have hacc : accept .encode s = beginCommand .encAlloc s := by simp [accept, hptr, hlen]
  have hstart : EncodeStage s (accept .encode s) ∧ GrantedStage s (accept .encode s) :=
    ⟨accept_encode_stage s, by rw [hacc]; exact ⟨rfl, rfl⟩⟩
  obtain ⟨t, ht, hend, hstage, hgranted⟩ := command_ends
    (P := fun u => EncodeStage s u ∧ GrantedStage s u) hs ha hstart fun _ u v hinv h hok =>
    ⟨coreStep_encodeStage hs hlen hinv h.1 hok, coreStep_grantedStage hg hinv h.1 h.2 hok⟩
  unfold EncodeStage at hstage
  unfold GrantedStage at hgranted
  rw [hend.phase] at hstage hgranted
  obtain ⟨-, hkind, hres⟩ := hstage
  obtain ⟨hnull, hreq⟩ := hgranted
  obtain ⟨hn, -⟩ | ⟨-, -, -, -, henc, -⟩ := hres
  · exact absurd hn hnull
  · exact ⟨t, ht, hkind, hnull, henc, hreq⟩

end Sys2Proof.Machine

open Sys2Proof Sys2Proof.Machine

/-- Settles O1: a code row since no code of `ROM_H2` begins another (`decode_encode_of_symbol`), any other row by its own words. -/
theorem decodeOfEncodeIsTheInstruction : Obligations.DecodeOfEncodeIsTheInstruction := by
  intro i _ hmicro
  cases hf : i.format with
  | huffcode =>
    obtain ⟨n, hn⟩ := symbol_of_format hf
    exact hf ▸ decode_encode_of_symbol hn
  | micro => exact absurd hf hmicro
  | cmd => cases i <;> cases hf <;> exact ⟨_, rfl, rfl, rfl⟩
  | resKind => cases i <;> cases hf <;> exact ⟨_, rfl, rfl, rfl⟩
  | areq =>
    cases i <;> cases hf
    · exact ⟨_, rfl, rfl, decode_areqAlloc _ _⟩
    · exact ⟨_, rfl, rfl, decode_areqGrow _ _ _⟩
    · exact ⟨_, rfl, rfl, rfl⟩
    · exact ⟨_, rfl, rfl, rfl⟩

/-- Settles O2, space by space. -/
theorem encodeOfDecodeIsTheWords : Obligations.EncodeOfDecodeIsTheWords := by
  intro w i h
  cases w with
  | cmd w => exact decodeCmd_ok h
  | areq op args =>
    obtain ⟨ws, hi, rfl⟩ := decodeAreq_ok (exactly_ok_iff.1 h)
    rw [hi, List.append_nil]
  | kind code ptr len cap => cases h; exact encode_decodeKind code ptr len cap
  | code bits =>
    obtain ⟨e, he, hi, rfl⟩ := decodeCode_ok (exactly_ok_iff.1 h)
    obtain ⟨j, hj, hsym⟩ := symbol_of_mem romH2_wf1 he
    cases hi.symm.trans hj
    rw [encode_of_mem he hsym, List.append_nil]

/-- Settles O3 by running the decoder on each of the words. -/
theorem specWordsDecode : Obligations.SpecWordsDecode := by
  unfold Obligations.SpecWordsDecode
  decide +kernel

/-- Settles O4: a word of `CMD` above 3 has a reserved bit set, and the four below are looked up (`decodeCmd_eq`). -/
theorem commandWordsAndReservedWords : Obligations.CommandWordsAndReservedWords := by
  refine ⟨decodeCmd_eq, fun w s h1 h2 h3 => ?_, fun op args h => decodeAreq_reservedOp h args⟩
  have hw := decodeCmd_eq w
  rw [if_neg h1, if_neg h2, if_neg h3] at hw
  split at hw
  · exact ⟨_, hostWrite_of_decodeCmd_error hw s⟩
  · exact ⟨_, hostWrite_of_decodeCmd_error hw s⟩

/-- Settles O5: the fields are appended in the order of R98. -/
theorem entryWordHoldsItsFields : Obligations.EntryWordHoldsItsFields :=
  ⟨fun e => ⟨extract_symbol e, extract_length e, extract_code e, ofWord_toWord e⟩, toWord_ofWord⟩

/-- Settles O6 since no code begins another (`eq_of_bits_prefix`) and the entry a scan stops at (`Scannable.scan_eq`). -/
theorem atMostOneCodeBeginsABitString : Obligations.AtMostOneCodeBeginsABitString := by
  intro rom hrom
  refine ⟨fun e he f hf => code_ne_of_length_eq hrom he hf, fun e he f hf bits => eq_of_bits_prefix_common hrom he hf,
    fun d d' b p remaining k hd hd' hrise hrise' => ?_, fun b p remaining hr => ?_⟩
  · exact Scannable.scan_eq ⟨hrom, hd, hrise⟩ ⟨hrom, hd', hrise'⟩
  · exact scanFrom_short (scannable_sortByLength hrom) hr _

/-- Settles O25: the scan and the decoder of codes stop at the same entry, the only one whose code begins the bits ahead. -/
theorem scanFindsTheDecodedCode : Obligations.ScanFindsTheDecodedCode := by
  intro s hs hready
  have hscan := hs.scannable (dtValid_of_scanReady hready)
  refine ⟨?_, fun i rest h => ?_⟩
  · cases hf : findCode s.dt (bitsAhead s) with
    | none =>
      rw [decodeCode_of_findCode_none hf, streamInstr_of_no_prefix hscan (findCode_eq_none_iff.1 hf)]
    | some e =>
      obtain ⟨he, hb⟩ := findCode_some hf
      obtain ⟨i, hi, -⟩ := symbol_of_mem hs.rom.wf1 (hscan.perm.mem_iff.1 he)
      rw [decodeCode_of_findCode hf hi, streamInstr_of_prefix hscan (hscan.perm.mem_iff.1 he) hb hi]
  · obtain ⟨e, he, hi, hbits⟩ := decodeCode_ok h
    obtain ⟨j, hj, hsym⟩ := symbol_of_mem hs.rom.wf1 (hscan.perm.mem_iff.1 he)
    cases hi.symm.trans hj
    exact ⟨format_of_symbol hsym, e, hscan.perm.mem_iff.1 he, hsym, hbits⟩

/-- Settles O7: `ROM_H2` is well formed (`romH2_wf`), and the rest is read off its 257 rows. -/
theorem defaultTableIsCompleteAndCanonical : Obligations.DefaultTableIsCompleteAndCanonical := by
  refine ⟨romH2_wf, by decide +kernel, by decide +kernel, fun k e f he hf => ?_⟩
  obtain ⟨hk, rfl⟩ := List.getElem?_eq_some_iff.1 he
  obtain ⟨hk', rfl⟩ := List.getElem?_eq_some_iff.1 hf
  exact List.isChain_iff_getElem.1 romH2_canonical k hk'

/-- Settles O32: the request changes what `reqTable_frame` says, and the answer is the next of the list. -/
theorem tableRequestIsAnswered : Obligations.TableRequestIsAnswered := by
  refine fun s => ⟨_, rfl, ?_, ?_, fun rest ha => ?_, fun h rest ha => ?_⟩
  · rw [reqTable_frame]; rfl
  · rw [State.withRet_ret]
    cases (reqTable s).1
    · exact .inr rfl
    · exact .inl rfl
  · rw [State.withRet_ret, reqTable_of_deny ha]
  · rw [State.withRet_ret, reqTable_of_grant ha]

/-- Settles O39: admission decides, and an absent table is built in the one step of the command (`prewarmBuild_ends`). -/
theorem prewarmBuildsTheTableOnce : Obligations.PrewarmBuildsTheTableOnce := by
  refine fun s => ⟨fun hr hb hv => ?built, fun hr hb hv => ?absent, fun hr hb => ?busy, fun hr => ?range⟩
  case built => exact ⟨_, exec_prewarm_built hr hb hv, endCommand_ends .ok ..⟩
  case absent =>
    refine ⟨_, exec_prewarm_absent hr hb hv, ?_⟩
    obtain ⟨hg, hend⟩ | ⟨hg, hend⟩ := prewarmBuild_ends hv
    · refine ⟨.inl hend, fun h rest ha => by rw [hend.1], fun rest ha => ?_⟩
      rw [reqTable_of_deny (s := beginCommand .build s) ha] at hg; cases hg
    · refine ⟨.inr hend, fun h rest ha => ?_, fun rest ha => by rw [hend.1]⟩
      rw [reqTable_of_grant (s := beginCommand .build s) ha] at hg; cases hg
  case busy =>
    show runCommand .prewarm s = _
    simp [runCommand, admission_prewarm hr, hb]
  case range =>
    show runCommand .prewarm s = _
    simp [runCommand, admission_outOfRange hr]

/-- Settles O47: the invariants `EncodeStage` and `GrantedStage` are kept by every step (`encode_granted_ends`), and the growths
that made the capacity are those the encoding needs. -/
theorem encodeWritesTheCodeStream : Obligations.EncodeWritesTheCodeStream := by
  intro s hs ha hptr hlen hg
  obtain ⟨t, ht, hkind, hnull, henc, n, hcap, hreq, -⟩ := encode_granted_ends hs ha hptr hlen hg
  have hneed := henc.cap
  exact ⟨t, ht, hkind, hnull, henc, by omega⟩
end


section
/-! PROOFS, family 40_rom_lookup: the lookup is an array access, and a well-formed table has an entry at every symbol. -/

namespace Sys2Proof.Machine

open Sys2Proof

/-- `WF1` puts an entry of its own symbol at every index from 0 to 256 (R100). -/
theorem exists_entry_of_symbol {rom : List CodeEntry} (h : Wf1 rom) {sym : BitVec 9} (hsym : sym.toNat ≤ 256) :
    ∃ e, rom[sym.toNat]? = some e ∧ e.symbol = sym := by
  have hlt : sym.toNat < rom.length := by rw [h.1]; exact Nat.lt_succ_of_le hsym
  have hget := List.getElem?_eq_getElem hlt
  exact ⟨_, hget, BitVec.eq_of_toNat_eq (h.2 _ _ hget)⟩

theorem romAt_of_entry {s : State} {k : Nat} {e : CodeEntry} (h : s.rom[k]? = some e) : romAt s k = .ok e := by
  simp [romAt, h]

/-- Where `ROM` has an entry, ROM.LOOKUP returns it and writes no other state (R130). -/
theorem exec_romLookup_of_entry {s : State} {sym : BitVec 9} {e : CodeEntry} (h : s.rom[sym.toNat]? = some e) :
    exec (.romLookup sym) s = .next (s.withRet (.entry e)) := by
  show execRomLookup sym s = _
  rw [execRomLookup, romAt_of_entry h]

end Sys2Proof.Machine

open Sys2Proof Sys2Proof.Machine

/-- Settles O8: `WF1` gives the entry (`exists_entry_of_symbol`), and the lookup returns it (`exec_romLookup_of_entry`). -/
theorem romLookupReturnsTheEntryOfTheSymbol : Obligations.RomLookupReturnsTheEntryOfTheSymbol := by
  intro s sym hrom hsym
  obtain ⟨e, hget, he⟩ := exists_entry_of_symbol hrom hsym
  exact ⟨e, hget, he, exec_romLookup_of_entry hget⟩
end

section
/-! PROOFS, family 41_decode_table: the cases of DT.BUILD, the order in which the sort puts a table, and what stands at each of its
indices. -/

namespace Sys2Proof.Machine

open Sys2Proof

/-! ### The cases of DT.BUILD (R140, R143) -/

theorem dtBuild_of_present {s : State} (hv : s.dtValid = true) : dtBuild s = (.done, s) := by
  simp [dtBuild, hv]

theorem dtBuild_of_grant {s : State} (hv : s.dtValid = false) (hg : (reqTable s).1 = true) :
    dtBuild s = (.done, { (reqTable s).2 with dt := sortByLength s.rom, dtValid := true }) := by
  simp [dtBuild, hv, hg]

theorem dtBuild_of_deny {s : State} (hv : s.dtValid = false) (hg : (reqTable s).1 = false) :
    dtBuild s = (.fail, (reqTable s).2) := by
  simp [dtBuild, hv, hg]

theorem exec_dtBuild (s : State) : exec .dtBuild s = .next ((dtBuild s).2.withRet (.ob (dtBuild s).1)) := rfl

/-- A build of an absent table that returned `DONE` has installed the sorted copy of `ROM` (R140). -/
theorem dt_of_exec_dtBuild_done {s t : State} (hv : s.dtValid = false) (h : exec .dtBuild s = .next t)
    (hdone : t.ret = .ob .done) : t.dt = sortByLength s.rom := by
  cases hg : (reqTable s).1 with
  | true => rw [exec_dtBuild, dtBuild_of_grant hv hg] at h; cases h; rfl
  | false => rw [exec_dtBuild, dtBuild_of_deny hv hg] at h; cases h; cases hdone

/-! ### The order of R141 -/

/-- One entry before another in the order of R141. -/
def DtBefore (a b : CodeEntry) : Prop :=
  a.length.toNat < b.length.toNat ∨ (a.length = b.length ∧ a.symbol.toNat < b.symbol.toNat)

theorem inDtOrder_iff (d : List CodeEntry) : InDtOrder d ↔ d.Pairwise DtBefore := Iff.rfl

theorem dtBefore_of_le {a b : CodeEntry} (hlen : a.length.toNat ≤ b.length.toNat) (hsym : a.symbol.toNat < b.symbol.toNat) :
    DtBefore a b :=
  hlen.lt_or_eq.imp_right fun heq => ⟨BitVec.eq_of_toNat_eq heq, hsym⟩

theorem DtBefore.length_le {a b : CodeEntry} (h : DtBefore a b) : a.length.toNat ≤ b.length.toNat :=
  h.elim le_of_lt fun h => h.1 ▸ le_rfl

theorem DtBefore.asymm {a b : CodeEntry} (h : DtBefore a b) : ¬DtBefore b a := by
  intro h'
  have heq := Nat.le_antisymm h.length_le h'.length_le
  rcases h with h | ⟨-, h⟩ <;> rcases h' with h' | ⟨-, h'⟩ <;> omega

/-- The sort is stable: an entry is put before all those not shorter, whose symbols are the greater. -/
theorem insertByLength_inDtOrder {e : CodeEntry} {l : List CodeEntry} (hsym : ∀ x ∈ l, e.symbol.toNat < x.symbol.toNat)
    (hl : InDtOrder l) : InDtOrder (insertByLength e l) := by
  induction l with
  | nil => exact List.pairwise_singleton ..
  | cons x xs ih =>
    obtain ⟨hx, hxs⟩ := List.pairwise_cons.1 ((inDtOrder_iff _).1 hl)
    simp only [insertByLength]
    split
    case isTrue hle =>
      refine List.pairwise_cons.2 ⟨fun y hy => dtBefore_of_le ?_ (hsym y hy), hl⟩
      rcases List.mem_cons.1 hy with rfl | hy
      · exact hle
      · exact hle.trans (hx y hy).length_le
    case isFalse hlt =>
      refine List.pairwise_cons.2 ⟨fun y hy => ?_, ih (fun y hy => hsym y (List.mem_cons_of_mem x hy)) hxs⟩
      rcases (mem_insertByLength e y xs).1 hy with rfl | hy
      · exact .inl (Nat.lt_of_not_le hlt)
      · exact hx y hy

/-- Entries in symbol order are sorted into the order of R141. -/
theorem sortByLength_inDtOrder {l : List CodeEntry} (h : l.Pairwise fun a b => a.symbol.toNat < b.symbol.toNat) :
    InDtOrder (sortByLength l) := by
  induction l with
  | nil => exact List.Pairwise.nil
  | cons e es ih =>
    obtain ⟨he, hes⟩ := List.pairwise_cons.1 h
    exact insertByLength_inDtOrder (fun x hx => he x ((mem_sortByLength x es).1 hx)) (ih hes)

/-- A table can be put into the order of R141 in one way only. -/
theorem InDtOrder.eq_of_perm {d d' : List CodeEntry} (hd : InDtOrder d) (hd' : InDtOrder d') (hp : d.Perm d') : d = d' :=
  hp.eq_of_pairwise (fun _ _ _ _ hab hba => absurd hba (DtBefore.asymm hab)) ((inDtOrder_iff d).1 hd) ((inDtOrder_iff d').1 hd')

/-! ### What stands at each index of the sorted table (R146) -/

section
variable {rom : List CodeEntry}

/-- Of a table with `WF1` no entry stands at two indices (R100). -/
theorem Wf1.nodup (h : Wf1 rom) : rom.Nodup :=
  List.pairwise_iff_getElem.2 fun i j hi hj hij heq => hij.ne <|
    (h.2 i _ (List.getElem?_eq_getElem hi)).symm.trans (heq ▸ h.2 j _ (List.getElem?_eq_getElem hj))

theorem length_sortByLength (h : Wf1 rom) : (sortByLength rom).length = nsym :=
  (sortByLength_perm rom).length_eq.trans h.1

/-- Every entry of the sorted table is that of its symbol, whole (R146 (a)). -/
theorem rom_of_sortByLength (h : Wf1 rom) {k : Nat} {e : CodeEntry} (he : (sortByLength rom)[k]? = some e) :
    rom[e.symbol.toNat]? = some e :=
  getElem?_symbol h ((mem_sortByLength e rom).1 (List.mem_of_getElem? he))

/-- Every symbol is at one index of the sorted table, and at no other (R146 (b)). -/
theorem exists_unique_index_of_symbol (h : Wf1 rom) {v : Nat} (hv : v ≤ 256) :
    ∃ k : Nat, (∃ e : CodeEntry, (sortByLength rom)[k]? = some e ∧ e.symbol.toNat = v) ∧
      ∀ (j : Nat) (e : CodeEntry), (sortByLength rom)[j]? = some e → e.symbol.toNat = v → j = k := by
  have hlt : v < rom.length := by rw [h.1]; exact Nat.lt_succ_of_le hv
  have hget := List.getElem?_eq_getElem hlt
  obtain ⟨k, hk⟩ := List.mem_iff_getElem?.1 ((mem_sortByLength _ rom).2 (List.mem_of_getElem? hget))
  refine ⟨k, ⟨_, hk, h.2 v _ hget⟩, fun j e hj hsym => ?_⟩
  have he : some e = some rom[v] := (rom_of_sortByLength h hj).symm.trans (hsym ▸ hget)
  have hnodup := (sortByLength_perm rom).nodup_iff.2 h.nodup
  exact (List.getElem?_inj (List.getElem?_eq_some_iff.1 hj).1 hnodup).1 (hj.trans (he.trans hk.symm))

/-- Lengths do not fall from one index of the sorted table to a later one (R146 (c)). -/
theorem sortByLength_monotone {j k : Nat} {e f : CodeEntry} (hjk : j ≤ k) (he : (sortByLength rom)[j]? = some e)
    (hf : (sortByLength rom)[k]? = some f) : e.length.toNat ≤ f.length.toNat := by
  obtain ⟨hj, rfl⟩ := List.getElem?_eq_some_iff.1 he
  obtain ⟨hk, rfl⟩ := List.getElem?_eq_some_iff.1 hf
  rcases hjk.eq_or_lt with rfl | hlt
  · exact le_rfl
  · exact List.pairwise_iff_getElem.1 (sortByLength_rising rom) j k hj hk hlt

/-- An index of the sorted table has an entry of `ROM`. -/
theorem exists_sortByLength_getElem? (h : Wf1 rom) {k : Nat} (hk : k ≤ 256) :
    ∃ e ∈ rom, (sortByLength rom)[k]? = some e := by
  have hlt : k < (sortByLength rom).length := by rw [length_sortByLength h]; exact Nat.lt_succ_of_le hk
  have hget := List.getElem?_eq_getElem hlt
  exact ⟨_, (mem_sortByLength _ rom).1 (List.mem_of_getElem? hget), hget⟩

/-- An entry of `ROM` has an index of the sorted table. -/
theorem exists_index_of_mem (h : Wf1 rom) {f : CodeEntry} (hf : f ∈ rom) :
    ∃ k, k ≤ 256 ∧ (sortByLength rom)[k]? = some f := by
  obtain ⟨k, hk⟩ := List.mem_iff_getElem?.1 ((mem_sortByLength f rom).2 hf)
  have hlt := (List.getElem?_eq_some_iff.1 hk).1
  rw [length_sortByLength h] at hlt
  exact ⟨k, Nat.le_of_lt_succ hlt, hk⟩

/-- The first entry of the sorted table is one of the shortest (R146 (c)). -/
theorem first_is_shortest (h : Wf1 rom) (h2 : Wf2 rom) :
    ∃ e, (sortByLength rom)[0]? = some e ∧ 5 ≤ e.length.toNat ∧ ∀ f ∈ rom, e.length.toNat ≤ f.length.toNat := by
  obtain ⟨e, he, hget⟩ := exists_sortByLength_getElem? h (Nat.zero_le 256)
  refine ⟨e, hget, (h2 e he).1, fun f hf => ?_⟩
  obtain ⟨k, -, hk⟩ := exists_index_of_mem h hf
  exact sortByLength_monotone k.zero_le hget hk

/-- The last entry of the sorted table is one of the longest (R146 (c)). -/
theorem last_is_longest (h : Wf1 rom) (h2 : Wf2 rom) :
    ∃ e, (sortByLength rom)[256]? = some e ∧ e.length.toNat ≤ 30 ∧ ∀ f ∈ rom, f.length.toNat ≤ e.length.toNat := by
  obtain ⟨e, he, hget⟩ := exists_sortByLength_getElem? h (le_refl 256)
  refine ⟨e, hget, (h2 e he).2, fun f hf => ?_⟩
  obtain ⟨k, hle, hk⟩ := exists_index_of_mem h hf
  exact sortByLength_monotone hle hk hget

end

end Sys2Proof.Machine

open Sys2Proof Sys2Proof.Machine

/-- Settles O10: insertion keeps the order (`sortByLength_inDtOrder`), which is asymmetric, so that only one permutation has it. -/
theorem sortIsTheUniqueOrderByLengthThenSymbol : Obligations.SortIsTheUniqueOrderByLengthThenSymbol := by
  intro t ht
  have hsorted := sortByLength_inDtOrder ht
  have hperm := sortByLength_perm t
  exact ⟨hperm, hsorted, fun d hd hord => hord.eq_of_perm hsorted (hd.trans hperm.symm)⟩

/-- Settles O11: a build that returned `DONE` left the sorted copy of `ROM` (`dt_of_exec_dtBuild_done`), a permutation by rising length. -/
theorem builtTableHoldsTheRomEntries : Obligations.BuiltTableHoldsTheRomEntries := by
  refine ⟨fun s t hrom hv hexec hdone => ?entries, fun s s' t t' hrom hv hv' hexec hexec' hdone hdone' => ?same⟩
  case entries =>
    rw [dt_of_exec_dtBuild_done hv hexec hdone]
    exact ⟨length_sortByLength hrom, fun k e => rom_of_sortByLength hrom, fun v => exists_unique_index_of_symbol hrom,
      fun j k e f => sortByLength_monotone, fun h2 => ⟨first_is_shortest hrom h2, last_is_longest hrom h2⟩⟩
  case same =>
    rw [dt_of_exec_dtBuild_done hv hexec hdone, dt_of_exec_dtBuild_done hv' hexec' hdone', hrom]

/-- Settles O9 by the three cases of DT.BUILD; ALLOC_TABLE itself writes no more than `reqTable_frame` says. -/
theorem dtBuildWritesTheSortedCopy : Obligations.DtBuildWritesTheSortedCopy := by
  refine fun s => ⟨fun hv => ?present, fun hv => ⟨_, exec_dtBuild s, ?absent⟩⟩
  case present => rw [exec_dtBuild, dtBuild_of_present hv]; rfl
  case absent =>
    cases hg : (reqTable s).1 with
    | true =>
      rw [dtBuild_of_grant hv hg, reqTable_frame]
      refine ⟨.inr ⟨rfl, rfl⟩, fun rest ha => ?_, fun h rest ha => rfl⟩
      rw [reqTable_of_deny ha] at hg; cases hg
    | false =>
      rw [dtBuild_of_deny hv hg, reqTable_frame]
      refine ⟨.inl ⟨rfl, rfl⟩, fun rest ha => rfl, fun h rest ha => ?_⟩
      rw [reqTable_of_grant ha] at hg; cases hg
end

section
/-! PROOFS, family 42_output_buffer: what a request to ALLOCATOR leaves of the regions, how the list of answers decides it, and the
branches of the output buffer controller. -/

namespace Sys2Proof.Machine

open Sys2Proof

/-! ### The regions after a request (R161 to R163) -/

/-- The bytes of a region stay where the region does. -/
theorem othersKept_of_regionGet {s t : State} {hs : List Nat} (h : ∀ x, x ∉ hs → regionGet t.mem x = regionGet s.mem x) :
    OthersKept s t hs :=
  fun x hx => ⟨h x hx, readByte_congr (h x hx)⟩

theorem isLive_regionDrop_same (m : Memory) (h : Nat) : isLive (regionDrop m h) h = false :=
  (isLive_eq_false_iff _ _).2 (regionGet_regionDrop_same m h)

theorem othersKept_of_regionDrop {s t : State} {h : Nat} (ht : t.mem = regionDrop s.mem h) : OthersKept s t [h] :=
  othersKept_of_regionGet fun _ hx => ht ▸ regionGet_regionDrop_other s.mem (List.ne_of_not_mem_cons hx)

/-- From `s` to the regions `m`, a region of `size` bytes was granted under `g` (R161). -/
structure AllocGrants (size : Nat) (zero : Bool) (s : State) (m : Memory) (g : Nat) : Prop where
  fits : g < 2 ^ s.sizeW
  notNull : g ≠ nullHandle
  wasDead : isLive s.mem g = false
  region : ∃ r, regionGet m g = some r ∧ r.cap = size ∧ r.granted = true
  zeros : zero = true → ∀ i, i < size → readByte m g i = some 0
  others : ∀ x, x ≠ g → regionGet m x = regionGet s.mem x

theorem AllocGrants.othersKept {size : Nat} {zero : Bool} {s t : State} {g : Nat} (h : AllocGrants size zero s t.mem g) :
    OthersKept s t [g] :=
  othersKept_of_regionGet fun x hx => h.others x (List.ne_of_not_mem_cons hx)

/-- The two outcomes of `ALLOC` (R161). -/
theorem reqAlloc_outcome (size : Nat) (zero : Bool) (s : State) :
    ((reqAlloc size zero s).1 = none ∧ (reqAlloc size zero s).2.mem = s.mem) ∨
      ∃ g, (reqAlloc size zero s).1 = some g ∧ AllocGrants size zero s (reqAlloc size zero s).2.mem g := by
  refine (reqAlloc_cases size zero s).imp_right fun ⟨g, seed, hg, hfits, hnull, hdead, hmem⟩ => ⟨g, hg, ?_⟩
  have hself : regionGet (reqAlloc size zero s).2.mem g = some (newRegion g size zero seed) :=
    hmem ▸ regionGet_regionPut_same s.mem (newRegion g size zero seed)
  exact {
    fits := hfits
    notNull := hnull
    wasDead := hdead
    region := ⟨_, hself, rfl, rfl⟩
    zeros := by
      rintro rfl i hi
      rw [readByte_of_regionGet hself hi, byteAt_newRegion_zero hi]
    others := fun x hx => hmem ▸ regionGet_regionPut_other s.mem (newRegion g size zero seed) hx }

/-- From `s` to the regions `m`, the region `r` under `h` was grown to `size` bytes under `g` (R162). -/
structure GrowGrants (h size : Nat) (zero : Bool) (s : State) (r : Region) (m : Memory) (g : Nat) : Prop where
  notNull : g ≠ nullHandle
  origin : g = h ∨ (g < 2 ^ s.sizeW ∧ isLive s.mem g = false)
  region : ∃ r', regionGet m g = some r' ∧ r'.cap = size ∧ r'.granted = true
  bytes : ∀ i, i < r.cap → readByte m g i = readByte s.mem h i
  zeros : zero = true → ∀ i, r.cap ≤ i → i < size → readByte m g i = some 0
  moved : g ≠ h → isLive m h = false
  others : ∀ x, x ≠ g → x ≠ h → regionGet m x = regionGet s.mem x

theorem GrowGrants.othersKept {h size : Nat} {zero : Bool} {s t : State} {r : Region} {g : Nat}
    (hg : GrowGrants h size zero s r t.mem g) : OthersKept s t [g, h] :=
  othersKept_of_regionGet fun x hx =>
    hg.others x (List.ne_of_not_mem_cons hx) (List.ne_of_not_mem_cons (List.not_mem_of_not_mem_cons hx))

/-- The two outcomes of `GROW` where it may be issued (R162). -/
theorem reqGrow_outcome {h size : Nat} (zero : Bool) {s : State} {r : Region} (hm : Memory.wf s.mem)
    (hr : regionGet s.mem h = some r) (hlt : r.cap < size) :
    ((reqGrow h size zero s).1 = none ∧ (reqGrow h size zero s).2.mem = s.mem) ∨
      ∃ g, (reqGrow h size zero s).1 = some g ∧ GrowGrants h size zero s r (reqGrow h size zero s).2.mem g := by
  refine (reqGrow_cases h size zero s).imp_right fun ⟨g, r', hg, hr', horigin, hmem⟩ => ⟨g, hg, ?_⟩
  cases hr.symm.trans hr'
  have hwf : Region.wf r := hm.2 r (regionGet_mem hr)
  replace hmem : (reqGrow h size zero s).2.mem = grownMemory s.mem h r g size zero := hmem
  have hself := regionGet_grownMemory_same s.mem h r g size zero
  rw [hmem]
  exact {
    notNull := by
      obtain rfl | ⟨-, hnull, -⟩ := horigin
      · exact regionGet_handle hr ▸ hwf.1
      · exact hnull
    origin := horigin.imp_right fun ⟨hfits, _, hdead⟩ => ⟨hfits, hdead⟩
    region := ⟨_, hself, rfl, rfl⟩
    bytes := fun i hi => readByte_grownMemory_below hr g zero hlt hi
    zeros := by
      rintro rfl i hge hi
      rw [readByte_of_regionGet hself hi, byteAt_grownRegion_above g hwf hge hi]
    moved := fun hne => by
      rw [isLive_eq_false_iff, regionGet_grownMemory_other s.mem h r size zero hne.symm, if_pos rfl]
    others := fun x hxg hxh => by rw [regionGet_grownMemory_other s.mem h r size zero hxg, if_neg hxh] }

/-! ### The next answer decides (R164) -/

theorem reqAlloc_of_deny {s : State} {rest : List Answer} (ha : s.answers = .deny :: rest) (size : Nat) (zero : Bool) :
    (reqAlloc size zero s).1 = none := by
  simp [reqAlloc, takeAnswer_cons (s := s.withRequest (.alloc size zero)) ha]

/-- A legal handle is granted as listed (R164 (b)). -/
theorem reqAlloc_of_grant {s : State} {h : Nat} {rest : List Answer} (ha : s.answers = .grant h :: rest)
    (hfits : h < 2 ^ s.sizeW) (hnull : h ≠ nullHandle) (hdead : isLive s.mem h = false) (size : Nat) (zero : Bool) :
    (reqAlloc size zero s).1 = some h := by
  simp [reqAlloc, takeAnswer_cons (s := s.withRequest (.alloc size zero)) ha, allocHandle_of_legal hfits hnull hdead]

theorem reqGrow_of_deny {s : State} {rest : List Answer} (ha : s.answers = .deny :: rest) (h size : Nat) (zero : Bool) :
    (reqGrow h size zero s).1 = none := by
  simp [reqGrow, takeAnswer_cons (s := s.withRequest (.grow h size zero)) ha]

theorem reqGrow_of_grant {s : State} {g h : Nat} {r : Region} {rest : List Answer} (ha : s.answers = .grant g :: rest)
    (hr : regionGet s.mem h = some r) (size : Nat) (zero : Bool) :
    (reqGrow h size zero s).1 = some (growHandle s.sizeW s.mem h g) := by
  simp [reqGrow, takeAnswer_cons (s := s.withRequest (.grow h size zero)) ha, hr]

theorem growHandle_of_legal {w : Nat} {m : Memory} {g : Nat} (hfits : g < 2 ^ w) (hnull : g ≠ nullHandle)
    (hdead : isLive m g = false) (h : Nat) : growHandle w m h g = g :=
  if_pos ((handleFree_iff w m g).2 ⟨hfits, hnull, hdead⟩)

/-- The old handle is no free one, and is kept (R162). -/
theorem growHandle_self (w : Nat) (m : Memory) (h : Nat) : growHandle w m h h = h := ite_self h

/-! ### The branches of the three requests (R161 to R163) -/

theorem wordsFit_of_lt {s : State} {v : Nat} (h : v < 2 ^ s.sizeW) : wordsFit s [v] = true :=
  (wordsFit_iff s [v]).2 (by simpa using h)

theorem not_wordsFit_of_le {s : State} {v : Nat} (h : 2 ^ s.sizeW ≤ v) : ¬wordsFit s [v] = true :=
  fun hw => absurd (lt_of_wordsFit hw (List.mem_singleton_self v)) (Nat.not_lt.2 h)

theorem exec_areqAlloc {size : Nat} (zero : Bool) {s : State} (hs : size < 2 ^ s.sizeW) :
    exec (.areqAlloc size zero) s = .next ((reqAlloc size zero s).2.withRet (.answer (reqAlloc size zero s).1)) :=
  if_pos (wordsFit_of_lt hs)

theorem exec_areqAlloc_wide {size : Nat} (zero : Bool) {s : State} (hs : 2 ^ s.sizeW ≤ size) :
    exec (.areqAlloc size zero) s = .refused .tooWide :=
  if_neg (not_wordsFit_of_le hs)

theorem exec_areqGrow_dead {h : Nat} {s : State} (hdead : isLive s.mem h = false) (size : Nat) (zero : Bool) :
    exec (.areqGrow h size zero) s = .refused (.deadRegion h) :=
  if_neg (by simp [hdead])

/-- A live region is grown only to more than its capacity, and to a size that fits (R162, R8). -/
theorem exec_areqGrow_live {h : Nat} {s : State} {r : Region} (hr : regionGet s.mem h = some r) (size : Nat) (zero : Bool) :
    exec (.areqGrow h size zero) s =
      if r.cap < size then
        if size < 2 ^ s.sizeW then .next ((reqGrow h size zero s).2.withRet (.answer (reqGrow h size zero s).1))
        else .refused .tooWide
      else .refused .growSize := by
  show execAreqGrow h size zero s = _
  simp [execAreqGrow, isLive, growable, wordsFit, hr]

theorem exec_areqRelease_live {h : Nat} {s : State} (hlive : isLive s.mem h = true) :
    exec (.areqRelease h) s = .next ((reqRelease h s).withRet .none) :=
  if_pos hlive

theorem exec_areqRelease_dead {h : Nat} {s : State} (hdead : isLive s.mem h = false) :
    exec (.areqRelease h) s = .refused (.deadRegion h) :=
  if_neg (by simp [hdead])

/-! ### The branches of the controller (R165 to R169) -/

theorem exec_obAlloc {size inc : Nat} (zero : Bool) {s : State} (hs : size < 2 ^ s.sizeW) (hi : inc < 2 ^ s.sizeW) :
    exec (.obAlloc size inc zero) s = .next ((obAlloc size inc zero s).2.withRet (.ob (obAlloc size inc zero s).1)) :=
  if_pos ((wordsFit_iff s _).2 (by simp [hs, hi]))

theorem exec_obAdopt {h cap inc : Nat} (zero : Bool) {s : State} (hh : h < 2 ^ s.sizeW) (hc : cap < 2 ^ s.sizeW)
    (hi : inc < 2 ^ s.sizeW) : exec (.obAdopt h cap inc zero) s = .next ((obAdopt h cap inc zero s).withRet .none) :=
  if_pos ((wordsFit_iff s _).2 (by simp [hh, hc, hi]))

/-- What a denied `OB.ALLOC` leaves (R165, log entry 24); for a granted one see `obAlloc_cases`. -/
theorem obAlloc_of_denied {size : Nat} {zero : Bool} {s : State} (hn : (reqAlloc size zero s).1 = none) (inc : Nat) :
    obAlloc size inc zero s = (.fail, ((reqAlloc size zero s).2.withWork
      (obForget (reqAlloc size zero s).2.sizeW (reqAlloc size zero s).2.freeNext (reqAlloc size zero s).2.work)).useFree 3) := by
  simp [obAlloc, hn]

/-- At or past the capacity `OB.ENSURE` is `OB.GROW` (R167). -/
theorem obEnsure_past {idx : Nat} {s : State} (hw : s.work.obCap.written = true) (h : s.work.obCap.value ≤ idx) :
    obEnsure idx s = obGrow s := by
  unfold obEnsure
  rw [bind_of_ok (needs_of_written (by simpa [Work.isWritten] using hw)), if_pos h]

theorem exec_obGrow_of_ok {s t : State} {r : Ob} (h : obGrow s = .ok (r, t)) : exec .obGrow s = .next (t.withRet (.ob r)) := by
  show ofOb (obGrow s) = _
  rw [h]; rfl

theorem exec_obGrow_of_error {s : State} {f : Fault} (h : obGrow s = .error f) : exec .obGrow s = .fault f := by
  show ofOb (obGrow s) = _
  rw [h]; rfl

section
variable {s : State} (hneeds : needs s [.obPtr, .obCap, .obInc, .obZero] = .ok ())
  (hfit : s.work.obCap.value + s.work.obInc.value < 2 ^ s.sizeW)
include hneeds hfit

/-- Where the request may be issued `OB.GROW` returns `DONE` or `FAIL` (R168); `obGrow_ok` says what it leaves. -/
theorem obGrow_completes (hg : growable s.mem s.work.obPtr.value (s.work.obCap.value + s.work.obInc.value) = true) :
    ∃ r t, obGrow s = .ok (r, t) := by
  unfold obGrow
  rw [bind_of_ok hneeds, bind_of_ok (fit_of_lt hfit), if_pos hg]
  split <;> exact ⟨_, _, rfl⟩

/-- Where it may not CORE faults (R162; log entry 18). -/
theorem obGrow_faults (hg : growable s.mem s.work.obPtr.value (s.work.obCap.value + s.work.obInc.value) = false) :
    obGrow s = .error (.requestContract s.work.obPtr.value) := by
  unfold obGrow
  rw [bind_of_ok hneeds, bind_of_ok (fit_of_lt hfit), if_neg (by simp [hg])]

end

/-- `OB.RELEASE` of a live region (R169). -/
theorem exec_obRelease_live {s : State} (hneeds : needs s [.obPtr] = .ok ()) (hlive : isLive s.mem s.work.obPtr.value = true) :
    exec .obRelease s = .next (((reqRelease s.work.obPtr.value s).withWork
      { s.work with obPtr := .wr nullHandle, obCap := .wr 0, obLen := .wr 0 }).withRet .none) := by
  show execObRelease s = _
  unfold execObRelease obRelease
  rw [bind_of_ok hneeds, if_pos hlive]
  rfl

theorem exec_obRelease_dead {s : State} (hneeds : needs s [.obPtr] = .ok ()) (hdead : isLive s.mem s.work.obPtr.value = false) :
    exec .obRelease s = .fault (.requestContract s.work.obPtr.value) := by
  show execObRelease s = _
  unfold execObRelease obRelease
  rw [bind_of_ok hneeds, if_neg (by simp [hdead])]

end Sys2Proof.Machine

open Sys2Proof Sys2Proof.Machine

/-- Settles O29: `reqAlloc_outcome` gives the two outcomes and `reqAlloc_frame` the rest; the next answer decides between them. -/
theorem allocRequestGrantsAFreshRegion : Obligations.AllocRequestGrantsAFreshRegion := by
  intro size zero s
  refine ⟨fun hs => ⟨_, exec_areqAlloc zero hs, ?frame, ?outcome, fun rest ha => ?deny, fun h rest ha hfits hnull hdead => ?grant⟩,
    exec_areqAlloc_wide zero⟩
  case frame => rw [reqAlloc_frame]; rfl
  case outcome =>
    refine (reqAlloc_outcome size zero s).imp (fun ⟨hn, hmem⟩ => ⟨congrArg Ret.answer hn, hmem⟩) fun ⟨g, hg, hreg⟩ => ?_
    exact ⟨g, congrArg Ret.answer hg, hreg.fits, hreg.notNull, hreg.wasDead, hreg.region, hreg.zeros, hreg.othersKept⟩
  case deny => exact congrArg Ret.answer (reqAlloc_of_deny ha size zero)
  case grant => exact congrArg Ret.answer (reqAlloc_of_grant ha hfits hnull hdead size zero)

/-- Settles O30: `exec_areqGrow_live` decides whether the request is issued, and `reqGrow_outcome` gives its two outcomes. -/
theorem growRequestKeepsTheBytes : Obligations.GrowRequestKeepsTheBytes := by
  refine ⟨fun h size zero s r hm hr hlt hs => ⟨(reqGrow h size zero s).2.withRet (.answer (reqGrow h size zero s).1), ?issued,
      ?frame, ?outcome, fun rest ha => ?deny, fun g rest ha hfits hnull hdead => ?grant, fun rest ha => ?stay⟩,
    fun h size zero s hdead => exec_areqGrow_dead hdead size zero, fun h size zero s r hr hle => ?small,
    fun h size zero s r hr hlt hs => ?wide⟩
  case issued => rw [exec_areqGrow_live hr, if_pos hlt, if_pos hs]
  case frame => rw [reqGrow_frame]; rfl
  case outcome =>
    refine (reqGrow_outcome zero hm hr hlt).imp (fun ⟨hn, hmem⟩ => ⟨congrArg Ret.answer hn, hmem⟩) fun ⟨g, hg, hreg⟩ => ?_
    exact ⟨g, congrArg Ret.answer hg, hreg.notNull, hreg.origin, hreg.region, hreg.bytes, hreg.zeros, hreg.moved, hreg.othersKept⟩
  case deny => exact congrArg Ret.answer (reqGrow_of_deny ha h size zero)
  case grant => rw [State.withRet_ret, reqGrow_of_grant ha hr, growHandle_of_legal hfits hnull hdead]
  case stay => rw [State.withRet_ret, reqGrow_of_grant ha hr, growHandle_self]
  case small => rw [exec_areqGrow_live hr, if_neg (Nat.not_lt.2 hle)]
  case wide => rw [exec_areqGrow_live hr, if_pos hlt, if_neg (Nat.not_lt.2 hs)]

/-- Settles O33 by the two outcomes of its request (`reqAlloc_outcome`). -/
theorem obAllocObtainsARegion : Obligations.ObAllocObtainsARegion := by
  intro size inc zero s hs hi
  refine ⟨_, exec_obAlloc zero hs hi, ?_⟩
  obtain ⟨-, hn, hmem⟩ | ⟨g, hdone, hg, ht⟩ := obAlloc_cases size inc zero s
  · rw [obAlloc_of_denied hn] at hmem ⊢
    refine ⟨?frame, .inl ⟨rfl, hmem, ?kept, rfl, rfl, rfl⟩, fun rest ha => rfl, fun h rest ha hfits hnull hdead => ?grant⟩
    case frame => rw [reqAlloc_frame]; rfl
    case kept => rw [reqAlloc_frame]; rfl
    case grant => rw [reqAlloc_of_grant ha hfits hnull hdead] at hn; cases hn
  · obtain ⟨g', hg', hreg⟩ := (reqAlloc_outcome size zero s).resolve_left fun hno => by rw [hno.1] at hg; cases hg
    cases hg.symm.trans hg'
    rw [hdone, ht]
    refine ⟨?frame, .inr ⟨rfl, g, hreg.fits, hreg.notNull, hreg.wasDead, ?registers, hreg.region, hreg.zeros, hreg.othersKept⟩,
      fun rest ha => ?deny, fun h rest ha hfits hnull hdead => ?grant⟩
    case frame => rw [reqAlloc_frame]; rfl
    case registers => rw [reqAlloc_frame]; rfl
    case deny => rw [reqAlloc_of_deny ha] at hg; cases hg
    case grant => rw [reqAlloc_of_grant ha hfits hnull hdead] at hg; cases hg; exact ⟨rfl, rfl⟩

/-- Settles O36: where the request may be issued `obGrow_ok` reduces OB.GROW to it, and `reqGrow_outcome` gives its two outcomes. -/
theorem obGrowAddsTheIncrement : Obligations.ObGrowAddsTheIncrement := by
  intro s hptr hcap hinc hzero hfit
  have hneeds : needs s [.obPtr, .obCap, .obInc, .obZero] = .ok () :=
    needs_of_written (by simp [Work.isWritten, hptr, hcap, hinc, hzero])
  refine ⟨fun r hm hr hlt => ?issued, fun hno => ?faults⟩
  case issued =>
    obtain ⟨o, t, hok⟩ := obGrow_completes hneeds hfit ((growable_iff _ _ _).2 ⟨r, hr, hlt⟩)
    refine ⟨_, exec_obGrow_of_ok hok, ?_⟩
    obtain ⟨size, hsize, -, hcase⟩ := obGrow_ok hok
    cases fit_eq hsize
    obtain ⟨rfl, hn, rfl⟩ | ⟨g, rfl, hg, rfl⟩ := hcase
    · obtain ⟨hmem, hwork⟩ := obGrow_denied hok
      refine ⟨?frame, .inl ⟨rfl, hmem, hwork⟩, fun rest ha => rfl, fun h rest ha => ?grant⟩
      case frame => rw [reqGrow_frame]; rfl
      case grant => rw [reqGrow_of_grant ha hr] at hn; cases hn
    · obtain ⟨g', hg', hreg⟩ := (reqGrow_outcome (obZeroFlag s) hm hr hlt).resolve_left fun hno => by
        rw [hno.1] at hg; cases hg
      cases hg.symm.trans hg'
      obtain ⟨r', hr', hcap', hgranted⟩ := hreg.region
      refine ⟨?frame, .inr ⟨rfl, g, hreg.notNull, hreg.origin.imp_right And.right, ?registers, ⟨r', hr', hgranted, hcap'⟩,
        hreg.bytes, fun hz => hreg.zeros (by simp [obZeroFlag, hz]), hreg.moved, hreg.othersKept⟩, fun rest ha => ?deny,
        fun h rest ha => rfl⟩
      case frame => rw [reqGrow_frame]; rfl
      case registers => rw [reqGrow_frame]; rfl
      case deny => rw [reqGrow_of_deny ha] at hg; cases hg
  case faults =>
    refine exec_obGrow_of_error (obGrow_faults hneeds hfit (Bool.eq_false_iff.2 fun hg => ?_))
    obtain ⟨r, hr, hlt⟩ := (growable_iff _ _ _).1 hg
    exact absurd hlt (Nat.not_lt.2 (hno r hr))

/-- Settles O31: the request drops the region, and no other (`regionDrop`). -/
theorem releaseRequestMakesTheRegionDead : Obligations.ReleaseRequestMakesTheRegionDead := by
  refine ⟨fun h s hlive => ⟨_, exec_areqRelease_live hlive, rfl, ?dead, othersKept_of_regionDrop rfl⟩,
    fun h s hdead => exec_areqRelease_dead hdead⟩
  case dead => exact isLive_regionDrop_same s.mem h

/-- Settles O34: the operands fit, and `obRegisters` is the five writes. -/
theorem obAdoptTakesTheSuppliedRegion : Obligations.ObAdoptTakesTheSuppliedRegion :=
  fun _ _ _ zero _ hh hc hi => exec_obAdopt zero hh hc hi

/-- Settles O35 by the two sides of the capacity (`obEnsure_below`, `obEnsure_past`). -/
theorem obEnsureGrowsAtOrPastTheCapacity : Obligations.ObEnsureGrowsAtOrPastTheCapacity :=
  fun _ _ hw => ⟨fun hlt => congrArg ofOb (obEnsure_below hw hlt), fun hle => congrArg ofOb (obEnsure_past hw hle)⟩

/-- Settles O37: a live region is dropped as by the request, a dead one faults. -/
theorem obReleaseGivesTheRegionBack : Obligations.ObReleaseGivesTheRegionBack := by
  intro s hptr
  have hneeds : needs s [.obPtr] = .ok () := needs_of_written (by simp [Work.isWritten, hptr])
  refine ⟨fun hlive => ⟨_, exec_obRelease_live hneeds hlive, rfl, ?dead, othersKept_of_regionDrop rfl⟩, exec_obRelease_dead hneeds⟩
  case dead => exact isLive_regionDrop_same s.mem s.work.obPtr.value
end

section
/-! PROOFS, family 43_encoder: the branches of the encoder's micro-operations, the admission of an ENCODE, and that none of its
steps sees the table. -/

namespace Sys2Proof.Machine

open Sys2Proof

/-! ### Accesses of CORE within R62 -/

theorem inRead_of_readByte {s : State} {i : Nat} {b : Byte} (h : readByte s.mem s.inPtr i = some b) : inRead s i = .ok b := by
  simp [inRead, h]

theorem outRead_of_readByte {s : State} {i : Nat} {b : Byte} (h : readByte s.mem s.work.obPtr.value i = some b) :
    outRead s i = .ok b := by
  simp [outRead, h]

/-- A byte that reads can be written, and is the only one that changes (R62). -/
theorem outWrite_of_readByte {s : State} {i : Nat} {old : Byte} (h : readByte s.mem s.work.obPtr.value i = some old)
    (b : Byte) : ∃ m, outWrite s i b = .ok (s.withMem m) ∧ readByte m s.work.obPtr.value i = some b ∧
      OtherBytesKept s.mem m s.work.obPtr.value i := by
  have hsome : (writeByte s.mem s.work.obPtr.value i b).isSome = true := by rw [writeByte_isSome, h]; rfl
  obtain ⟨m, hm⟩ := Option.isSome_iff_exists.1 hsome
  exact ⟨m, by simp [outWrite, hm], readByte_writeByte_same hm, fun g j hne => readByte_writeByte_other hm hne⟩

/-! ### The branches of the encoder's micro-operations (R183 to R188) -/

/-- Where its sizes fit `ENC.ALLOC` completes (R183); `encAlloc_ok` says how. -/
theorem encAlloc_completes {s : State} (hcap : cap0 s.inLen < 2 ^ s.sizeW) (hinc : encInc < 2 ^ s.sizeW) :
    ∃ t, encAlloc s = .ok t := by
  unfold encAlloc
  rw [bind_of_ok (fit_of_lt hcap), bind_of_ok (fit_of_lt hinc)]
  cases (obAlloc (cap0 s.inLen) encInc true s).1 <;> exact ⟨_, rfl⟩

theorem exec_encFetch_atEnd {s : State} (hw : s.work.symIdx.written = true) (hend : s.work.symIdx.value = s.inLen) :
    exec .encFetch s = .next (s.withPhase .encPad) := by
  show ofRun (encFetch s) = _
  unfold encFetch
  rw [bind_of_ok (needs_of_written (by simpa [Work.isWritten] using hw))]
  exact congrArg ofRun (if_pos hend)

theorem exec_encFetch_of_entry {s : State} {b : Byte} {e : CodeEntry} (hw : s.work.symIdx.written = true)
    (hlt : s.work.symIdx.value < s.inLen) (hfit : s.inLen < 2 ^ s.sizeW)
    (hb : readByte s.mem s.inPtr s.work.symIdx.value = some b) (he : s.rom[b.toNat]? = some e) :
    exec .encFetch s = .next ((s.withWork { s.work with
      curCode := .wr e.code, curLen := .wr e.length, bitsLeft := .wr e.length,
      symIdx := .wr (s.work.symIdx.value + 1) }).withPhase .encPack) := by
  show ofRun (encFetch s) = _
  unfold encFetch
  rw [bind_of_ok (needs_of_written (by simpa [Work.isWritten] using hw))]
  dsimp only
  rw [if_neg hlt.ne, bind_of_ok (inRead_of_readByte hb), bind_of_ok (romAt_of_entry he),
    bind_of_ok (fit_of_lt (lt_of_le_of_lt hlt hfit))]
  rfl

/-- In a byte that reads a pass of `ENC.PACK` completes (R185); `encPackByte_ok` says what it does. -/
theorem encPackByte_completes {s : State} {idx : Nat} {old : Byte} (hptr : s.work.obPtr.written = true)
    (hpos : s.work.bitsSet.value + packCount s.work.bitsSet.value s.work.bitsLeft.value.toNat < 2 ^ s.sizeW)
    (hlen : idx + 1 < 2 ^ s.sizeW) (hold : readByte s.mem s.work.obPtr.value idx = some old) :
    ∃ t, encPackByte idx s = .ok t := by
  obtain ⟨m, hm, -, -⟩ := outWrite_of_readByte hold (old ||| packByte s.work.curCode.value.toNat s.work.bitsSet.value
    s.work.bitsLeft.value.toNat)
  unfold encPackByte
  rw [bind_of_ok (needs_of_written (by simpa [Work.isWritten] using hptr))]
  dsimp only
  rw [bind_of_ok (outRead_of_readByte hold), bind_of_ok hm, bind_of_ok (fit_of_lt hpos), bind_of_ok (fit_of_lt hlen)]
  exact ⟨_, rfl⟩

section
variable {s t : State} (hneeds : needs s [.bitsSet, .bitsLeft, .curCode] = .ok ())
include hneeds

/-- Where byte `BITS_SET div 8` is inside the region, or OB.GROW makes room for it, `ENC.PACK` writes to it (R185). -/
theorem encPack_of_ensured (he : obEnsure (s.work.bitsSet.value / 8) s = .ok (.done, t)) :
    encPack s = encPackByte (s.work.bitsSet.value / 8) t := by
  unfold encPack
  rw [bind_of_ok hneeds]
  exact bind_of_ok he _

/-- Where the growth is denied it unwinds (R188). -/
theorem encPack_of_denied (he : obEnsure (s.work.bitsSet.value / 8) s = .ok (.fail, t)) : encPack s = encUnwind t := by
  unfold encPack
  rw [bind_of_ok hneeds]
  exact bind_of_ok he _

end

/-- The byte one pass of `ENC.PACK` ORs in, as R185 writes it. -/
theorem packByte_eq (code pos left : Nat) :
    packByte code pos left = BitVec.ofNat 8 (((code >>> (left - min (8 - pos % 8) left)) % 2 ^ min (8 - pos % 8) left) *
      2 ^ (8 - pos % 8 - min (8 - pos % 8) left)) := by
  simp only [packByte, packCount, packFree, Nat.shiftLeft_eq]

theorem obAlloc_ret (size inc : Nat) (zero : Bool) (s : State) : (obAlloc size inc zero s).2.ret = s.ret := by
  unfold obAlloc
  split <;> rw [reqAlloc_frame] <;> rfl

theorem obGrow_ret {s t : State} {r : Ob} (h : obGrow s = .ok (r, t)) : t.ret = s.ret := by
  obtain ⟨size, -, -, ⟨-, -, rfl⟩ | ⟨g, -, -, rfl⟩⟩ := obGrow_ok h
  · rw [reqGrow_frame]
  · rw [reqGrow_frame]; rfl

/-- A growth that is granted writes `OB_PTR` and `OB_CAP` alone of the working registers (R168). -/
theorem obGrow_granted_work {s t : State} (h : obGrow s = .ok (.done, t)) :
    ∃ g, t.work = { s.work with obPtr := .wr g, obCap := .wr (s.work.obCap.value + s.work.obInc.value) } := by
  obtain ⟨size, hsize, -, ⟨hr, -⟩ | ⟨g, -, -, rfl⟩⟩ := obGrow_ok h
  · cases hr
  · cases fit_eq hsize
    exact ⟨g, by rw [reqGrow_frame]; rfl⟩

/-- Once OB.GROW has made room for the byte, `ENC.PACK` is the pass of the grown state (R185). -/
theorem encPack_of_grown {s t : State} (hneeds : needs s [.bitsSet, .bitsLeft, .curCode] = .ok ())
    (hcap : s.work.obCap.written = true) (hge : s.work.obCap.value ≤ s.work.bitsSet.value / 8)
    (hlt : s.work.bitsSet.value / 8 < s.work.obCap.value + s.work.obInc.value) (hok : obGrow s = .ok (.done, t)) :
    encPack s = encPack t := by
  obtain ⟨g, hwork⟩ := obGrow_granted_work hok
  have hneeds' : needs t [.bitsSet, .bitsLeft, .curCode] = .ok () := by
    simpa [needs_ok_iff, hwork, Work.isWritten] using hneeds
  have hpos : t.work.bitsSet.value = s.work.bitsSet.value := by rw [hwork]
  have hroom : obEnsure (t.work.bitsSet.value / 8) t = .ok (.done, t) :=
    obEnsure_below (by rw [hwork]; rfl) (by rw [hwork]; exact hlt)
  rw [encPack_of_ensured hneeds ((obEnsure_past hcap hge).trans hok), encPack_of_ensured hneeds' hroom, hpos]

/-- The unwind of a live region (R169, R188). -/
theorem encUnwind_of_live {s : State} (hptr : s.work.obPtr.written = true) (hlive : isLive s.mem s.work.obPtr.value = true) :
    encUnwind s = .ok (endCommand .ok nullHandle 0 0 ((reqRelease s.work.obPtr.value s).withWork
      { s.work with obPtr := .wr nullHandle, obCap := .wr 0, obLen := .wr 0 })) := by
  unfold encUnwind obRelease
  rw [bind_of_ok (needs_of_written (by simpa [Work.isWritten] using hptr)), if_pos hlive]
  rfl

section
variable {s : State} (hw : ∀ x ∈ [WName.bitsSet, .obPtr, .obCap], s.work.isWritten x = true)
  (hlen : (s.work.bitsSet.value + 7) / 8 < 2 ^ s.sizeW)
include hw hlen

/-- `ENC.PAD` of a full last byte writes nothing (R186). -/
theorem exec_encPad_of_full (hfull : s.work.bitsSet.value % 8 = 0) : exec .encPad s =
    .next (endCommand .ok s.work.obPtr.value ((s.work.bitsSet.value + 7) / 8) s.work.obCap.value s) := by
  show ofRun (encPad s) = _
  unfold encPad
  rw [bind_of_ok (needs_of_written hw)]
  dsimp only
  rw [bind_of_ok (fit_of_lt hlen), if_pos hfull]
  rfl

/-- `ENC.PAD` of a partly filled last byte sets its low bits (R186). -/
theorem exec_encPad_of_partial {old : Byte} {m : Memory} (hpart : s.work.bitsSet.value % 8 ≠ 0)
    (hold : readByte s.mem s.work.obPtr.value (s.work.bitsSet.value / 8) = some old)
    (hm : outWrite s (s.work.bitsSet.value / 8) (old ||| padByte (s.work.bitsSet.value % 8)) = .ok (s.withMem m)) :
    exec .encPad s = .next (endCommand .ok s.work.obPtr.value ((s.work.bitsSet.value + 7) / 8) s.work.obCap.value
      (s.withMem m)) := by
  show ofRun (encPad s) = _
  unfold encPad
  rw [bind_of_ok (needs_of_written hw)]
  dsimp only
  rw [bind_of_ok (fit_of_lt hlen), if_neg hpart, bind_of_ok (outRead_of_readByte hold), bind_of_ok hm]
  rfl

end

/-! ### The admission of an ENCODE (R96, R181, R302) -/

theorem admission_encode {s : State} (hr : s.inLen < 2 ^ (s.sizeW - 6)) (hb : s.busy = false) :
    admission .encode s = if s.inPtr = nullHandle ∨ inputReadable s = true then none else some .inputRegion := by
  have hduty : inputDuty .encode s = true ↔ s.inPtr = nullHandle ∨ inputReadable s = true := by simp [inputDuty]
  rw [← if_congr hduty rfl rfl]
  cases h : inputDuty .encode s <;> simp [admission, inRange, hr, hb, outputDuty, apartDuty, h]

theorem inputReadable_iff (s : State) : inputReadable s = true ↔ s.inLen = 0 ∨ InputLive s := by
  refine ⟨inputLive_of_readable, fun h => ?_⟩
  obtain h0 | ⟨r, hr, hcap⟩ := h
  · simp [inputReadable, h0]
  · simp [inputReadable, hr, hcap]

/-- An ENCODE of nothing ends at its acceptance (R181). -/
theorem exec_encode_of_nothing {s : State} (hr : s.inLen < 2 ^ (s.sizeW - 6)) (hb : s.busy = false)
    (h : s.inPtr = nullHandle ∨ s.inLen = 0) :
    exec .encode s = .next (endCommand .ok nullHandle 0 0 (beginCommand .idle s)) := by
  have hadm : admission .encode s = none := by
    rw [admission_encode hr hb, if_pos (h.imp_right fun h0 => (inputReadable_iff s).2 (.inl h0))]
  have hacc : accept .encode s = endCommand .ok nullHandle 0 0 (beginCommand .idle s) := if_pos h
  show runCommand .encode s = _
  unfold runCommand
  rw [hadm, hacc, untilIdle_of_idle rfl]
  rfl

theorem exec_encode_of_refusal {s : State} {r : Refusal} (h : admission .encode s = some r) :
    exec .encode s = .refused r := by
  show runCommand .encode s = _
  simp [runCommand, h]

/-! ### The table is put in a state, and nothing an ENCODE does sees it (R194) -/

/-- The state with another `DT` and `DT_VALID`. -/
def State.withTable (d : List CodeEntry) (v : Bool) (s : State) : State := { s with dt := d, dtValid := v }

section
variable (d : List CodeEntry) (v : Bool)

@[simp] theorem State.withTable_sizeW (s : State) : (s.withTable d v).sizeW = s.sizeW := rfl
@[simp] theorem State.withTable_mem (s : State) : (s.withTable d v).mem = s.mem := rfl
@[simp] theorem State.withTable_work (s : State) : (s.withTable d v).work = s.work := rfl
@[simp] theorem State.withTable_busy (s : State) : (s.withTable d v).busy = s.busy := rfl
@[simp] theorem State.withTable_phase (s : State) : (s.withTable d v).phase = s.phase := rfl
@[simp] theorem State.withTable_inLen (s : State) : (s.withTable d v).inLen = s.inLen := rfl

/-- A first part that does not see the table, and then the rest. -/
theorem bind_eq_map_bind {α β : Type} {f : β → β} {x : Except Fault α} {k k' : α → Except Fault β}
    (h : ∀ a, k' a = f <$> k a) : (x >>= k') = f <$> (x >>= k) := by
  rw [map_bind]; exact bind_congr h

/-- A first part that carries the table along, and then the rest. -/
theorem map_bind_eq_map_bind {α β : Type} {g : α → α} {f : β → β} {x : Except Fault α} {k k' : α → Except Fault β}
    (h : ∀ a, k' (g a) = f <$> k a) : (g <$> x >>= k') = f <$> (x >>= k) := by
  rw [map_bind, bind_map_left]; exact bind_congr h

theorem takeAnswer_withTable (s : State) :
    takeAnswer (s.withTable d v) = ((takeAnswer s).1, (takeAnswer s).2.withTable d v) := by
  cases ha : s.answers <;> simp [takeAnswer, State.withTable, State.useFree, ha]

theorem reqAlloc_withTable (size : Nat) (zero : Bool) (s : State) :
    reqAlloc size zero (s.withTable d v) = ((reqAlloc size zero s).1, (reqAlloc size zero s).2.withTable d v) := by
  have ht : takeAnswer ((s.withTable d v).withRequest (.alloc size zero)) = _ :=
    takeAnswer_withTable d v (s.withRequest (.alloc size zero))
  unfold reqAlloc
  rw [ht, State.withTable_mem, State.withTable_sizeW]
  cases (takeAnswer (s.withRequest (.alloc size zero))).1 with
  | deny => rfl
  | grant h =>
    dsimp only
    cases allocHandle s.sizeW s.mem h <;> rfl

theorem reqGrow_withTable (h size : Nat) (zero : Bool) (s : State) :
    reqGrow h size zero (s.withTable d v) = ((reqGrow h size zero s).1, (reqGrow h size zero s).2.withTable d v) := by
  have ht : takeAnswer ((s.withTable d v).withRequest (.grow h size zero)) = _ :=
    takeAnswer_withTable d v (s.withRequest (.grow h size zero))
  unfold reqGrow
  rw [ht, State.withTable_mem]
  cases (takeAnswer (s.withRequest (.grow h size zero))).1 with
  | deny => rfl
  | grant g => cases regionGet s.mem h <;> rfl

theorem obAlloc_withTable (size inc : Nat) (zero : Bool) (s : State) :
    obAlloc size inc zero (s.withTable d v) =
      ((obAlloc size inc zero s).1, (obAlloc size inc zero s).2.withTable d v) := by
  unfold obAlloc
  rw [reqAlloc_withTable]
  cases (reqAlloc size zero s).1 <;> rfl

theorem obGrow_withTable (s : State) : obGrow (s.withTable d v) = Prod.map id (State.withTable d v) <$> obGrow s := by
  refine bind_eq_map_bind fun _ => bind_eq_map_bind fun size => ?_
  have hzero : obZeroFlag (s.withTable d v) = obZeroFlag s := rfl
  rw [State.withTable_mem, State.withTable_work, hzero, reqGrow_withTable]
  split
  · cases (reqGrow s.work.obPtr.value size (obZeroFlag s) s).1 <;> rfl
  · rfl

theorem obEnsure_withTable (idx : Nat) (s : State) :
    obEnsure idx (s.withTable d v) = Prod.map id (State.withTable d v) <$> obEnsure idx s := by
  refine bind_eq_map_bind fun _ => ?_
  rw [State.withTable_work, obGrow_withTable]
  split <;> rfl

theorem obRelease_withTable (s : State) : obRelease (s.withTable d v) = State.withTable d v <$> obRelease s := by
  refine bind_eq_map_bind fun _ => ?_
  rw [State.withTable_mem, State.withTable_work]
  split <;> rfl

theorem outWrite_withTable (i : Nat) (b : Byte) (s : State) :
    outWrite (s.withTable d v) i b = State.withTable d v <$> outWrite s i b := by
  unfold outWrite
  rw [State.withTable_mem, State.withTable_work]
  split <;> rfl

theorem encAlloc_withTable (s : State) : encAlloc (s.withTable d v) = State.withTable d v <$> encAlloc s := by
  refine bind_eq_map_bind fun size => bind_eq_map_bind fun inc => ?_
  rw [obAlloc_withTable]
  cases (obAlloc size inc true s).1 <;> rfl

theorem encFetch_withTable (s : State) : encFetch (s.withTable d v) = State.withTable d v <$> encFetch s := by
  refine bind_eq_map_bind fun _ => ?_
  dsimp only
  rw [State.withTable_work, State.withTable_inLen]
  split
  · rfl
  · exact bind_eq_map_bind fun _ => bind_eq_map_bind fun _ => bind_eq_map_bind fun _ => rfl

theorem encUnwind_withTable (s : State) : encUnwind (s.withTable d v) = State.withTable d v <$> encUnwind s := by
  unfold encUnwind
  rw [obRelease_withTable]
  exact map_bind_eq_map_bind fun _ => rfl

theorem encPackByte_withTable (idx : Nat) (s : State) :
    encPackByte idx (s.withTable d v) = State.withTable d v <$> encPackByte idx s := by
  refine bind_eq_map_bind fun _ => bind_eq_map_bind fun old => ?_
  rw [outWrite_withTable]
  exact map_bind_eq_map_bind fun _ => bind_eq_map_bind fun _ => bind_eq_map_bind fun _ => rfl

theorem encPack_withTable (s : State) : encPack (s.withTable d v) = State.withTable d v <$> encPack s := by
  refine bind_eq_map_bind fun _ => ?_
  dsimp only
  rw [obEnsure_withTable]
  refine map_bind_eq_map_bind fun (r, u) => ?_
  cases r with
  | fail => exact encUnwind_withTable d v u
  | done => exact encPackByte_withTable d v _ u

theorem encPad_withTable (s : State) : encPad (s.withTable d v) = State.withTable d v <$> encPad s := by
  refine bind_eq_map_bind fun _ => bind_eq_map_bind fun _ => ?_
  rw [State.withTable_work]
  split
  · rfl
  · refine bind_eq_map_bind fun old => ?_
    rw [outWrite_withTable]
    exact map_bind_eq_map_bind fun _ => rfl

/-! ### A whole ENCODE (R180, R194) -/

/-- The PHASEs of an ENCODE, its end among them (R37). -/
def EncodePhase (p : Phase) : Prop := p ∈ [Phase.encAlloc, .encFetch, .encPack, .encPad, .idle]

/-- CORE goes on from a PHASE of an ENCODE to another of them. -/
theorem encodePhase_of_phaseMove {p q : Phase} (hp : EncodePhase p) (hi : p ≠ .idle) (h : phaseMove p q = true) :
    EncodePhase q := by
  cases p
  case idle => exact absurd rfl hi
  case encAlloc | encFetch | encPack | encPad => cases q <;> simp [phaseMove, EncodePhase] at h ⊢
  all_goals exact absurd hp (by simp [EncodePhase])

theorem coreStep_withTable {s : State} (hp : EncodePhase s.phase) :
    coreStep (s.withTable d v) = State.withTable d v <$> coreStep s := by
  unfold coreStep
  rw [State.withTable_phase]
  cases hs : s.phase <;> simp only [hs, EncodePhase] at hp ⊢
  case idle => rfl
  case encAlloc => exact encAlloc_withTable d v s
  case encFetch => exact encFetch_withTable d v s
  case encPack => exact encPack_withTable d v s
  case encPad => exact encPad_withTable d v s
  all_goals exact absurd hp (by decide)

theorem coreStep_encodePhase {s t : State} (hp : EncodePhase s.phase) (h : coreStep s = .ok t) : EncodePhase t.phase := by
  refine encodePhase_of_phaseMove hp (fun hi => ?_) (coreStep_moves h).phase
  simp [coreStep, hi] at h

theorem untilIdle_withTable {s : State} (n : Nat) (hp : EncodePhase s.phase) :
    untilIdle n (s.withTable d v) = State.withTable d v <$> untilIdle n s := by
  induction n generalizing s with
  | zero =>
    unfold untilIdle
    rw [State.withTable_busy]
    split <;> rfl
  | succ n ih =>
    unfold untilIdle
    rw [State.withTable_busy, coreStep_withTable d v hp]
    split
    · cases hs : coreStep s with
      | ok u => exact ih (coreStep_encodePhase hp hs)
      | error f => rfl
    · rfl

theorem accept_encode_phase (s : State) : EncodePhase (accept .encode s).phase := by
  simp only [accept]
  split <;> simp [EncodePhase]

theorem accept_encode_withTable (s : State) : accept .encode (s.withTable d v) = (accept .encode s).withTable d v := by
  simp only [accept]
  rw [apply_ite (State.withTable d v)]
  rfl

/-- An ENCODE from the state with another table does the same (R194). -/
theorem exec_encode_withTable {s t : State} (h : exec .encode s = .next t) :
    exec .encode (s.withTable d v) = .next (t.withTable d v) := by
  obtain ⟨ha, hu⟩ := runCommand_next (c := .encode) h
  show runCommand .encode (s.withTable d v) = _
  have ha' : admission .encode (s.withTable d v) = none := ha
  have hu' : untilIdle (stepBound s) (accept .encode (s.withTable d v)) = .ok (t.withTable d v) := by
    rw [accept_encode_withTable, untilIdle_withTable d v _ (accept_encode_phase s), hu]; rfl
  unfold runCommand
  rw [ha']
  exact congrArg ofRun hu'

end

end Sys2Proof.Machine

open Sys2Proof Sys2Proof.Machine

/-- Settles O48: an ENCODE carries any table along (`exec_encode_withTable`), its own among them, which it therefore leaves. -/
theorem encodeIgnoresTheDecodeTable : Obligations.EncodeIgnoresTheDecodeTable := by
  intro s t d v h
  have hself : exec .encode s = .next (t.withTable s.dt s.dtValid) := exec_encode_withTable s.dt s.dtValid h
  have ht : t = t.withTable s.dt s.dtValid := Host.Outcome.next.inj (h.symm.trans hself)
  exact ⟨by rw [ht]; rfl, by rw [ht]; rfl, exec_encode_withTable d v h⟩

/-- Settles O42: the byte reads, so that the pass completes, and `encPackByte_ok` says all it does. -/
theorem encPackWritesOneChunk : Obligations.EncPackWritesOneChunk := by
  intro s old hw pos left free n chunk hlt hpos hlen hold
  obtain ⟨hset, hleft, hcode, hptr, hcap⟩ : s.work.bitsSet.written = true ∧ s.work.bitsLeft.written = true ∧
      s.work.curCode.written = true ∧ s.work.obPtr.written = true ∧ s.work.obCap.written = true := by
    simpa [Work.isWritten] using hw
  have hneeds : needs s [.bitsSet, .bitsLeft, .curCode] = .ok () :=
    needs_of_written (by simpa [Work.isWritten] using ⟨hset, hleft, hcode⟩)
  obtain ⟨t, ht⟩ := encPackByte_completes hptr hpos hlen hold
  have hexec : exec .encPack s = .next t :=
    congrArg ofRun ((encPack_of_ensured hneeds (obEnsure_below hcap hlt)).trans ht)
  obtain ⟨old', m, hold', hm, rfl⟩ := encPackByte_ok ht
  cases hold.symm.trans hold'
  refine ⟨m, hexec, ?byte, fun g j hne => readByte_writeByte_other hm hne⟩
  case byte => rw [readByte_writeByte_same hm, packByte_eq]

/-- Settles O43: at the capacity OB.ENSURE is OB.GROW (`obEnsure_past`); once grown the byte is inside the region
(`encPack_of_grown`), and a denial leaves the regions and the registers to the unwind (`obGrow_denied`, `encUnwind_of_live`). -/
theorem encPackGrowsOrUnwinds : Obligations.EncPackGrowsOrUnwinds := by
  intro s r hw hge hlt hfit hr hsmall
  obtain ⟨hset, hleft, hcode, hptr, hcap, hinc, hzero⟩ : s.work.bitsSet.written = true ∧ s.work.bitsLeft.written = true ∧
      s.work.curCode.written = true ∧ s.work.obPtr.written = true ∧ s.work.obCap.written = true ∧
      s.work.obInc.written = true ∧ s.work.obZero.written = true := by
    simpa [Work.isWritten] using hw
  have hneeds : needs s [.bitsSet, .bitsLeft, .curCode] = .ok () :=
    needs_of_written (by simpa [Work.isWritten] using ⟨hset, hleft, hcode⟩)
  have hgrow : needs s [.obPtr, .obCap, .obInc, .obZero] = .ok () :=
    needs_of_written (by simpa [Work.isWritten] using ⟨hptr, hcap, hinc, hzero⟩)
  obtain ⟨o, t, hok⟩ := obGrow_completes hgrow hfit ((growable_iff _ _ _).2 ⟨r, hr, hsmall⟩)
  refine ⟨_, exec_obGrow_of_ok hok, fun hdone => ?granted, fun hfail => ?denied⟩
  case granted =>
    cases hdone
    have hstate : { t.withRet (.ob .done) with ret := s.ret } = t := by rw [← obGrow_ret hok]; rfl
    rw [hstate]
    exact congrArg ofRun (encPack_of_grown hneeds hcap hge hlt hok)
  case denied =>
    cases hfail
    obtain ⟨hmem, hwork⟩ := obGrow_denied hok
    have hptr' : t.work.obPtr.written = true := by rw [hwork]; exact hptr
    have hlive : isLive t.mem t.work.obPtr.value = true := by rw [hmem, hwork]; exact (isLive_iff _ _).2 ⟨r, hr⟩
    have hunwind : encPack s = _ :=
      (encPack_of_denied hneeds ((obEnsure_past hcap hge).trans hok)).trans (encUnwind_of_live hptr' hlive)
    have hdrop : regionDrop t.mem t.work.obPtr.value = regionDrop s.mem s.work.obPtr.value := by rw [hmem, hwork]
    refine ⟨_, _, exec_obRelease_live (s := t.withRet (.ob .fail)) (needs_of_written (by simpa [Work.isWritten] using hptr'))
      hlive, congrArg ofRun hunwind, endCommand_ends .ok .., ?dead, othersKept_of_regionDrop hdrop⟩
    case dead => exact (congrArg (isLive · s.work.obPtr.value) hdrop).trans (isLive_regionDrop_same _ _)

/-- Settles O40: `encAlloc_ok` has the two ends of OB.ALLOC, and what decides between them is O33. -/
theorem encAllocObtainsTheInitialBuffer : Obligations.EncAllocObtainsTheInitialBuffer := by
  intro s hcap hinc
  have hsize : 4 * ((((5 * s.inLen + 3) / 4) + 3) / 4) = cap0 s.inLen := Nat.mul_comm ..
  rw [hsize]
  obtain ⟨s1, hs1, -, -, hdeny, hgrant⟩ := obAllocObtainsARegion (cap0 s.inLen) encInc true s hcap hinc
  cases hs1.symm.trans (exec_obAlloc true hcap hinc)
  obtain ⟨t, ht⟩ := encAlloc_completes hcap hinc
  refine ⟨_, t, hs1, congrArg ofRun ht, fun hdone => ?done, fun hfail => ?fail,
    fun h rest ha hfits hnull hdead => (hgrant h rest ha hfits hnull hdead).1, hdeny⟩
  case done =>
    obtain ⟨hf, -⟩ | ⟨-, rfl⟩ := encAlloc_ok ht
    · cases hf.symm.trans (Ret.ob.inj hdone)
    · rw [← obAlloc_ret (cap0 s.inLen) encInc true s]; rfl
  case fail =>
    obtain ⟨-, rfl⟩ | ⟨hd, -⟩ := encAlloc_ok ht
    · exact endCommand_ends .ok ..
    · cases hd.symm.trans (Ret.ob.inj hfail)

/-- Settles O41 by the two cases of `ENC.FETCH`. -/
theorem encFetchLooksUpTheNextByte : Obligations.EncFetchLooksUpTheNextByte :=
  fun _ hw hfit => ⟨exec_encFetch_atEnd hw, fun _ _ hlt hb he => exec_encFetch_of_entry hw hlt hfit hb he⟩

/-- Settles O44: the last byte reads, so that it can be written, and it is the only one that changes (`outWrite_of_readByte`). -/
theorem encPadFillsTheLastByteWithOnes : Obligations.EncPadFillsTheLastByteWithOnes := by
  intro s hw hlen
  refine ⟨fun hfull => ⟨_, exec_encPad_of_full hw hlen hfull, endCommand_ends .ok ..⟩, fun old hpart hold => ?_⟩
  obtain ⟨m, hm, hbyte, hothers⟩ := outWrite_of_readByte hold (old ||| padByte (s.work.bitsSet.value % 8))
  exact ⟨_, exec_encPad_of_partial hw hlen hpart hold hm, endCommand_ends .ok .., hbyte, hothers⟩

/-- Settles O45: admission decides (`admission_encode`), and an ENCODE of nothing ends at its acceptance. -/
theorem encodeOfNothingIsNoResult : Obligations.EncodeOfNothingIsNoResult := by
  refine fun s hb => ⟨fun hr h => ⟨_, exec_encode_of_nothing hr hb h, endCommand_ends .ok ..⟩, fun hr hptr hlen hdead => ?_,
    fun hr => exec_encode_of_refusal (admission_outOfRange hr .encode)⟩
  refine exec_encode_of_refusal ((admission_encode hr hb).trans (if_neg ?_))
  rw [inputReadable_iff]
  simp [hptr, hlen, hdead]
end

section
/-! PROOFS, family 44_decoder: the requests of a DECODE that are all granted, the parse of an encoding, and the branches of the
decoder's micro-operations. -/

namespace Sys2Proof.Machine

open Sys2Proof

/-! ### The requests of a DECODE that are all granted (R172, R231) -/

/-- Since the acceptance in `s₀` at most `n` of the coming answers have been taken. -/
def AnswersTaken (s₀ s : State) (n : Nat) : Prop := ∃ k, k ≤ n ∧ s.answers = s₀.answers.drop k

/-- The table, the region and each growth, of 1000 bytes, have taken at most one answer each. -/
def DecodeGranted (s₀ s : State) : Prop := ∃ g, 1000 * g ≤ s.work.obCap.value ∧ AnswersTaken s₀ s (2 + g)

/-- What holds in each PHASE of a DECODE accepted in `s₀` when every request is granted. -/
def DecodeGrantedStage (s₀ s : State) : Prop :=
  match s.phase with
  | .decInit => AnswersTaken s₀ s 0
  | .decStart => AnswersTaken s₀ s 1
  | .scanning => DecodeGranted s₀ s
  | .emit => DecodeGranted s₀ s
  | .term => DecodeGranted s₀ s
  | .idle => s.resKind = 0
  | _ => False

theorem AnswersTaken.mono {s₀ s t : State} {m n : Nat} (h : AnswersTaken s₀ s m) (ht : t.answers = s.answers)
    (hle : m ≤ n) : AnswersTaken s₀ t n := by
  obtain ⟨k, hk, ha⟩ := h
  exact ⟨k, hk.trans hle, ht.trans ha⟩

/-- A request takes one answer. -/
theorem AnswersTaken.tail {s₀ s t : State} {n : Nat} (h : AnswersTaken s₀ s n) (ht : t.answers = s.answers.tail) :
    AnswersTaken s₀ t (n + 1) := by
  obtain ⟨k, hk, ha⟩ := h
  exact ⟨k + 1, Nat.succ_le_succ hk, by rw [ht, ha, List.tail_drop]⟩

/-- While fewer than the promised answers have been taken the next one is a grant. -/
theorem AnswersTaken.next_grant {s₀ s : State} {m n : Nat} (hg : Grants m s₀) (h : AnswersTaken s₀ s n) (hlt : n < m) :
    ∃ g rest, s.answers = .grant g :: rest := by
  obtain ⟨k, hk, ha⟩ := h
  obtain ⟨g, hnext⟩ := hg.next (hk.trans_lt hlt)
  exact ⟨g, _, ha.trans hnext⟩

/-- A build of the table with a grant to come returns `DONE` and takes at most one answer (R140, R143). -/
theorem dtBuild_granted {s : State} (ha : ∃ g rest, s.answers = .grant g :: rest) :
    (dtBuild s).1 = .done ∧ ((dtBuild s).2.answers = s.answers ∨ (dtBuild s).2.answers = s.answers.tail) := by
  obtain ⟨g, rest, ha⟩ := ha
  cases hv : s.dtValid with
  | true => rw [dtBuild_of_present hv]; exact ⟨rfl, .inl rfl⟩
  | false => rw [dtBuild_of_grant hv (reqTable_of_grant ha), reqTable_frame]; exact ⟨rfl, .inr rfl⟩

section
variable {s₀ s t : State}

theorem DecodeGranted.of_eq (h : DecodeGranted s₀ s) (ha : t.answers = s.answers := by rfl)
    (hc : t.work.obCap = s.work.obCap := by rfl) : DecodeGranted s₀ t := by
  obtain ⟨g, hcap, htaken⟩ := h
  exact ⟨g, hc ▸ hcap, htaken.mono ha le_rfl⟩

/-- Where the loop of R210 goes on nothing more has been asked for. -/
theorem loop_grantedStage (h : DecodeGranted s₀ s) (p total : Nat) :
    DecodeGrantedStage s₀ (s.withPhase (loopPhase p total)) := by
  unfold loopPhase
  split <;> exact h.of_eq

theorem decInit_grantedStage (hg : Grants (s₀.inLen + 3) s₀) (h : AnswersTaken s₀ s 0) :
    DecodeGrantedStage s₀ (decInit s) := by
  obtain ⟨hdone, hans⟩ := dtBuild_granted (h.next_grant hg (by omega))
  obtain ⟨-, ht⟩ | ⟨hf, -⟩ := decInit_cases s
  · rw [ht]
    show AnswersTaken s₀ (dtBuild s).2 1
    exact hans.elim (h.mono · (Nat.zero_le 1)) h.tail
  · rw [hdone] at hf; cases hf

theorem decCounters_grantedStage (h : DecodeGranted s₀ s) (hok : decCounters s = .ok t) : DecodeGrantedStage s₀ t := by
  rw [decCounters_ok hok]
  exact loop_grantedStage (s := s.withWork _) h.of_eq 0 (8 * s.inLen)

theorem decStart_grantedStage (hg : Grants (s₀.inLen + 3) s₀) (hf : RunFrame s₀ s) (hmem : s.mem = s₀.mem)
    (h : AnswersTaken s₀ s 1) (hok : decStart s = .ok t) : DecodeGrantedStage s₀ t := by
  obtain ⟨g, rest, ha⟩ := h.next_grant hg (by omega)
  have hroom : s.mem.length + 1 < 2 ^ s.sizeW := by rw [hmem, hf.sizeW]; exact hg.2.2
  obtain ⟨hdone, hans, -, -⟩ := obAlloc_granted ha hroom (2 * s.inLen) decInc false
  obtain ⟨-, hfail, -⟩ | ⟨-, -, hok⟩ | ⟨-, hok⟩ := decStart_ok hok
  · rw [hdone] at hfail; cases hfail
  · exact decCounters_grantedStage ⟨0, Nat.zero_le _, h.tail (by rw [hans, ha]; rfl)⟩ hok
  · exact decCounters_grantedStage (s := obAdopt s.outPtr s.outCap decInc false s)
      ⟨0, Nat.zero_le _, h.mono rfl (by omega)⟩ hok

/-- The bytes decoded leave a grant for the growth they need: at most one growth for every 5000 bits of the input (R96, R101). -/
theorem DecodeGranted.ensure (hg : Grants (s₀.inLen + 3) s₀) (hlen : s.inLen = s₀.inLen) (hready : DecReady s)
    (h : DecodeGranted s₀ s) {r : Ob} (hok : obEnsure s.work.outPos.value s = .ok (r, t)) :
    r = .done ∧ DecodeGranted s₀ t := by
  obtain ⟨g, hcap, htaken⟩ := h
  have hinc : s.work.obInc.value = 1000 := hready.inc
  have hpos := hready.pos
  have hdone := hready.done
  have htotal := hready.total
  obtain ⟨hr, ⟨ha, -, hc⟩ | ⟨-, ha, -, hc⟩⟩ := obEnsure_granted hok fun hfull => htaken.next_grant hg (by omega)
  · exact ⟨hr, g, hc ▸ hcap, htaken.mono ha le_rfl⟩
  · exact ⟨hr, g + 1, by omega, htaken.tail ha⟩

theorem decScan_grantedStage (hsound : Sound s) (hready : DecReady s)
    (hlt : s.work.bitsDone.value < s.work.bitsTotal.value) (h : DecodeGranted s₀ s) (hok : decScan s = .ok t) :
    DecodeGrantedStage s₀ t := by
  obtain ⟨k, e, hr, -⟩ | ⟨k, e, hr, -⟩ | ⟨hr, -⟩ := scanResult_cases hsound.rom hsound.dt hready hlt
  · rw [decScan_found hr hok]; exact h.of_eq
  · obtain ⟨k, r, rfl⟩ := decScan_stops_loop (.inl ⟨k, hr⟩) hok; exact h.of_eq
  · obtain ⟨k, r, rfl⟩ := decScan_stops_loop (.inr hr) hok; exact h.of_eq

theorem emitFound_grantedStage (hg : Grants (s₀.inLen + 3) s₀) (hlen : s.inLen = s₀.inLen) (hready : DecReady s)
    {e : CodeEntry} (hget : s.dt[s.work.scanK.value.toNat]? = some e) (h : DecodeGranted s₀ s)
    (hok : emitFound s = .ok t) : DecodeGrantedStage s₀ t := by
  obtain ⟨r, u, hens, hcase⟩ := emitFound_ok hget hok
  obtain ⟨rfl, hu⟩ := h.ensure hg hlen hready hens
  obtain ⟨hr, -⟩ | ⟨-, -, hok⟩ := hcase
  · cases hr
  · obtain ⟨m, -, rfl⟩ := decEmitByte_ok hok
    exact loop_grantedStage (s := (u.withMem m).withWork _) hu.of_eq _ _

theorem decTerm_grantedStage (hg : Grants (s₀.inLen + 3) s₀) (hlen : s.inLen = s₀.inLen) (hready : DecReady s)
    (h : DecodeGranted s₀ s) (hok : decTerm s = .ok t) : DecodeGrantedStage s₀ t := by
  obtain ⟨r, u, hens, hcase⟩ := decTerm_ok hok
  obtain ⟨rfl, -⟩ := h.ensure hg hlen hready hens
  obtain ⟨hr, -⟩ | ⟨-, m, -, rfl⟩ := hcase
  · cases hr
  · rfl

/-- A step of a DECODE in its invariant, every request granted, keeps what its PHASE says of the requests. -/
theorem coreStep_decodeGrantedStage (hg : Grants (s₀.inLen + 3) s₀) (hinv : CommandInv s) (hd : DecodeStage s₀ s)
    (h : DecodeGrantedStage s₀ s) (hok : coreStep s = .ok t) : DecodeGrantedStage s₀ t := by
  obtain ⟨hsound, -, -, hphase⟩ := hinv
  unfold PhaseInv at hphase
  unfold DecodeStage at hd
  unfold DecodeGrantedStage at h
  unfold coreStep at hok
  cases hp : s.phase <;> simp only [hp] at hphase hd h hok
  case decInit => cases hok; exact decInit_grantedStage hg h
  case decStart => exact decStart_grantedStage hg hd.1 hd.2 h hok
  case scanning => exact decScan_grantedStage hsound hphase.1 hphase.2 h hok
  case emit =>
    obtain ⟨e, rest, hget, -, hprog⟩ := hd
    exact emitFound_grantedStage hg hprog.inLen hphase.1 hget h hok
  case term => exact decTerm_grantedStage hg hd.inLen hphase h hok

end

/-- An admitted DECODE with every request granted ends with `OK` (R231). -/
theorem decode_granted_ends {s : State} (hs : Sound s) (ha : admission .decode s = none) (hg : Grants (s.inLen + 3) s) :
    ∃ t, exec .decode s = .next t ∧ t.resKind = 0 ∧ DecodeResult s t := by
  have hstart : DecodeStage s (accept .decode s) ∧ DecodeGrantedStage s (accept .decode s) :=
    ⟨⟨beginCommand_untouched .decInit s, rfl⟩, 0, le_rfl, rfl⟩
  obtain ⟨t, ht, hend, hstage, hgranted⟩ := command_ends
    (P := fun u => DecodeStage s u ∧ DecodeGrantedStage s u) hs ha hstart fun _ u v hinv h hok =>
    ⟨coreStep_decodeStage hinv h.1 hok, coreStep_decodeGrantedStage hg hinv h.1 h.2 hok⟩
  unfold DecodeStage at hstage
  unfold DecodeGrantedStage at hgranted
  rw [hend.phase] at hstage hgranted
  exact ⟨t, ht, hgranted, hstage.2⟩

/-- A DECODE that ended with `OK` has written the whole parse and a zero byte after it (R219, R224). -/
theorem DecodeResult.whole_parse {s t : State} (h : DecodeResult s t) (hk : t.resKind = 0) :
    ReportsSymbols s t ∧ t.resLen = (parse s.rom (inputByte s) s.inLen).length ∧
      readByte t.mem t.resPtr t.resLen = some 0 := by
  obtain ⟨-, hr, -, hlen, hterm⟩ | ⟨hk', -⟩ | ⟨hk', -⟩ | ⟨hk', -⟩ := h
  · exact ⟨hr, hlen, hterm⟩
  all_goals rw [hk] at hk'; exact absurd hk' (by decide)

/-! ### The parse of an encoding (R190, R224, R225) -/

/-- The first `m` bytes of the stream `B` are the codes of the first `n` bytes of `b`, then ones to the end of the last byte
(R190). -/
structure EncodingOf (rom : List CodeEntry) (b : Nat → Byte) (n : Nat) (B : Nat → Byte) (m : Nat) : Prop where
  len : m = (codePos rom b n + 7) / 8
  codes : ∀ i, i < n → streamBits B (codePos rom b i) (codeOf rom (b i)).length.toNat = (codeOf rom (b i)).code.toNat
  padding : ∀ p, codePos rom b n ≤ p → p < 8 * m → streamBit B p = true

theorem Encoded.encodingOf {s t : State} (h : Encoded s t) :
    EncodingOf s.rom (inputByte s) s.inLen (regionByte t.mem t.resPtr) t.resLen :=
  ⟨h.len, h.codes, h.padding⟩

/-- A run of ones read as a number. -/
theorem streamBits_of_ones {B : Nat → Byte} {p len : Nat} (h : ∀ q, p ≤ q → q < p + len → streamBit B q = true) :
    streamBits B p len = 2 ^ len - 1 := by
  refine Nat.eq_of_testBit_eq fun k => ?_
  rw [testBit_streamBits, Nat.testBit_two_pow_sub_one]
  by_cases hk : k < len
  · simp [hk, h (p + (len - 1 - k)) (by omega) (by omega)]
  · simp [hk]

theorem symbol_codeOf {rom : List CodeEntry} (h : Wf1 rom) (b : Byte) : (codeOf rom b).symbol.toNat = b.toNat :=
  h.2 _ _ (getElem?_codeOf h b)

/-- The entry at a position is one of the table, and its code stands there. -/
theorem codeAt_of_entryAt {rom : List CodeEntry} {b : Nat → Byte} {n p : Nat} {e : CodeEntry}
    (h : entryAt rom b n p = some e) : e ∈ rom ∧ CodeAt b n p e := by
  have htest := List.find?_some h
  exact ⟨List.mem_of_find?_eq_some h, (entryAt_test_iff b n p e).1 htest⟩

section
variable {rom : List CodeEntry} {b B : Nat → Byte} {n m : Nat}

/-- Where a code stands in an encoding, its entry is the one the parse takes. -/
theorem EncodingOf.entryAt_code (hrom : RomWf rom) (h : EncodingOf rom b n B m) {i : Nat} (hi : i < n) :
    entryAt rom B m (codePos rom b i) = some (codeOf rom (b i)) := by
  have hend : codePos rom b i + (codeOf rom (b i)).length.toNat ≤ codePos rom b n := codePos_mono rom b hi
  have hlen := h.len
  exact entryAt_eq_some hrom.wf4 (codeOf_mem hrom.wf1 _) ⟨by omega, h.codes i hi⟩

/-- In the padding, of at most seven ones, the only code that can begin is that of symbol 256 (R104). -/
theorem EncodingOf.eos_of_padding (hrom : RomWf rom) (h : EncodingOf rom b n B m) {e : CodeEntry}
    (he : entryAt rom B m (codePos rom b n) = some e) : e.symbol.toNat = eosSymbol := by
  obtain ⟨hmem, hroom, hcode⟩ := codeAt_of_entryAt he
  have hlen := h.len
  rw [streamBits_of_ones fun q hq hlt => h.padding q hq (by omega)] at hcode
  have hle := symbol_le_of_mem hrom.wf1 hmem
  by_contra hne
  unfold eosSymbol at hle hne
  exact hrom.wf5 e hmem (by omega) (by omega) hcode.symm

/-- From the code of byte `i` on the parse of an encoding is the bytes from there on. -/
theorem EncodingOf.parseFrom_eq (hrom : RomWf rom) (h : EncodingOf rom b n B m) {k i fuel : Nat} (hk : i + k = n)
    (hfuel : 8 * m - codePos rom b i ≤ fuel) :
    parseFrom rom B m fuel (codePos rom b i) = (List.range' i k).map fun j => (b j).toNat := by
  induction k generalizing i fuel with
  | zero =>
    obtain rfl : i = n := hk
    cases he : entryAt rom B m (codePos rom b i) with
    | none => exact parseFrom_of_none fuel he
    | some e => exact parseFrom_of_eos fuel he (h.eos_of_padding hrom he)
  | succ k ih =>
    have hi : i < n := by omega
    have hsym := symbol_codeOf hrom.wf1 (b i)
    have hmin := (hrom.wf2 _ (codeOf_mem hrom.wf1 (b i))).1
    have hend : codePos rom b (i + 1) ≤ codePos rom b n := codePos_mono rom b hi
    have hsucc : codePos rom b (i + 1) = codePos rom b i + (codeOf rom (b i)).length.toNat := rfl
    have hlen := h.len
    have hbyte := (b i).isLt
    obtain ⟨fuel', hfuel', hparse⟩ := parseFrom_of_symbol (by omega) hfuel (h.entryAt_code hrom hi)
      (by rw [hsym]; unfold eosSymbol; omega) (by omega)
    rw [hparse, hsym, ← hsucc, ih (by omega) hfuel']
    rfl

/-- The parse of an encoding is the bytes encoded (R225). -/
theorem EncodingOf.parse_eq (hrom : RomWf rom) (h : EncodingOf rom b n B m) :
    parse rom B m = (List.range n).map fun j => (b j).toNat := by
  rw [List.range_eq_range']
  exact h.parseFrom_eq hrom (Nat.zero_add n) le_rfl

end

/-- An ENCODE that reports a region had an input to encode (R181). -/
theorem inputLive_of_encode {s t : State} (h : exec .encode s = .next t) (hptr : t.resPtr ≠ nullHandle) : InputLive s := by
  obtain ⟨hrange, hbusy, hduty, -, -⟩ := admission_none (runCommand_next (c := .encode) h).1
  by_cases hnothing : s.inPtr = nullHandle ∨ s.inLen = 0
  · cases h.symm.trans (exec_encode_of_nothing (by simpa [inRange] using hrange) hbusy hnothing)
    exact absurd rfl hptr
  · obtain ⟨hne, h0⟩ := not_or.1 hnothing
    exact (inputLive_of_readable (by simpa [inputDuty, hne] using hduty)).resolve_left h0

/-- It reports the encoding of that input, in a live region that holds it (R187, R190). -/
theorem encoded_of_encode {s t : State} (hs : Sound s) (h : exec .encode s = .next t) (hptr : t.resPtr ≠ nullHandle) :
    t.busy = false ∧ Untouched s t ∧ Encoded s t ∧ ∃ r, regionGet t.mem t.resPtr = some r ∧ t.resLen ≤ r.cap := by
  obtain ⟨t', ht', hend, hu, -, hres⟩ := encode_ends hs (runCommand_next (c := .encode) h).1
  cases h.symm.trans ht'
  obtain ⟨hnull, -⟩ | ⟨-, -, -, hle, henc, r, hr, -, hcap⟩ := hres
  · exact absurd hnull hptr
  · exact ⟨hend.busy, hu, henc, r, hr, hcap ▸ hle⟩

/-! ### The branches of the decoder's micro-operations (R211 to R219) -/

theorem dtBuild_ret (s : State) : (dtBuild s).2.ret = s.ret := by
  unfold dtBuild
  split
  · rfl
  · split <;> rw [reqTable_frame]

/-- Where its sizes fit, the counters are set (R212); `decCounters_ok` says how. -/
theorem decCounters_completes {s : State} (h : 8 * s.inLen < 2 ^ s.sizeW) : ∃ t, decCounters s = .ok t := by
  unfold decCounters
  rw [bind_of_ok (fit_of_lt h)]
  exact ⟨_, rfl⟩

/-- Where its sizes fit `DEC.START` completes (R212); `decStart_ok` says how. -/
theorem decStart_completes {s : State} (hlen : 8 * s.inLen < 2 ^ s.sizeW) (hinc : decInc < 2 ^ s.sizeW) :
    ∃ t, decStart s = .ok t := by
  have hu := obAlloc_untouched (2 * s.inLen) decInc false s
  unfold decStart
  rw [bind_of_ok (fit_of_lt hinc)]
  split
  · rw [bind_of_ok (fit_of_lt (show 2 * s.inLen < 2 ^ s.sizeW by omega))]
    cases (obAlloc (2 * s.inLen) decInc false s).1
    · exact decCounters_completes (by rw [hu.inLen, hu.sizeW]; exact hlen)
    · exact ⟨_, rfl⟩
  · exact decCounters_completes hlen

/-- The loop of R210 starts in `SCANNING`, with nothing to decode in `TERM`. -/
theorem loopPhase_start (n : Nat) : loopPhase 0 (8 * n) = if n = 0 then .term else .scanning := by
  by_cases h : n = 0
  · rw [h]; rfl
  · rw [if_neg h]; exact if_pos (by omega)

/-- What the decoder reads of its input: its bytes, and zeros from `IN_LEN` on (R67, R216). -/
theorem inZero_eq {s : State} (h : s.inLen = 0 ∨ InputLive s) :
    inZero s = fun i => if i < s.inLen then inputByte s i else 0 := by
  funext i
  unfold inZero
  split
  · obtain ⟨r, hr, hcap⟩ := h.resolve_left (by omega)
    simp only [hr]
    exact (regionByte_of_readByte (readByte_of_regionGet hr (by omega))).symm
  · rfl

theorem exec_decWindow {s : State} {len : BitVec 6} (hw : s.work.bitsDone.written = true) (h1 : 1 ≤ len.toNat)
    (h32 : len.toNat ≤ 32) (hin : s.inLen = 0 ∨ InputLive s) : exec (.decWindow len) s =
      .next (s.withRet (.window (window (inZero s) s.work.bitsDone.value len.toNat))) := by
  show execDecWindow len s = _
  unfold execDecWindow
  rw [if_neg (by unfold windowMax; omega), needs_of_written (by simpa [Work.isWritten] using hw)]
  exact if_pos ((inputReadable_iff s).2 hin)

theorem scanReady_of_input {s : State} (hdone : s.work.bitsDone.written = true) (htotal : s.work.bitsTotal.written = true)
    (hv : s.dtValid = true) (hin : s.inLen = 0 ∨ InputLive s) : scanReady s = .ok () := by
  unfold scanReady
  rw [bind_of_ok (needs_of_written (by simpa [Work.isWritten] using ⟨hdone, htotal⟩)), if_pos hv,
    if_pos ((inputReadable_iff s).2 hin)]

/-- The PHASE a scan that does not end the command leads to (R210). -/
def scanPhase : Scan → Phase
  | .found _ => .emit
  | _ => .term

/-- A scan that does not end the command writes `SCAN_K` and goes on in its PHASE (R214, R220, R221). -/
theorem exec_decScan {s : State} {r : Scan} (hready : scanReady s = .ok ()) (hr : scanResult s = r)
    (hne : ∀ k, r ≠ .internal k) : exec .decScan s = .next (((s.withWork
      { s.work with scanK := .wr (BitVec.ofNat 9 (scanIndex r)) }).withRet (.scan r)).withPhase (scanPhase r)) := by
  subst hr
  show ofRun (decScan s) = _
  unfold decScan
  rw [bind_of_ok hready]
  dsimp only
  cases hr : scanResult s with
  | internal k => exact absurd hr (hne k)
  | found k => rfl
  | eos k => rfl
  | short k => rfl
  | noMatch k => rfl

/-- A length over 32 bits ends the command (R222). -/
theorem exec_decScan_internal {s : State} {k : Nat} (hready : scanReady s = .ok ()) (hr : scanResult s = .internal k)
    (hw : ∀ x ∈ [WName.obPtr, .outPos, .obCap], s.work.isWritten x = true) : exec .decScan s =
      .next (endCommand .internal s.work.obPtr.value s.work.outPos.value s.work.obCap.value ((s.withWork
        { s.work with scanK := .wr (BitVec.ofNat 9 k) }).withRet (.scan (.internal k)))) := by
  show ofRun (decScan s) = _
  unfold decScan
  rw [bind_of_ok hready]
  simp only [hr]
  rw [bind_of_ok (needs_of_written hw)]
  rfl

/-- A scan with `remaining` bits left, `win len` the next `len`, goes past an entry: it has room, is no longer than 32 bits, and its
code is not the next bits (R214). -/
def PassedOver (win : Nat → Nat) (remaining : Nat) (e : CodeEntry) : Prop :=
  e.length.toNat ≤ remaining ∧ e.length.toNat ≤ windowMax ∧ win e.length.toNat ≠ e.code.toNat

/-- A scan goes past the entries it passes over (R214). -/
theorem scanFrom_passed {win : Nat → Nat} {remaining k : Nat} {l : List CodeEntry} (hk : k ≤ l.length)
    (h : ∀ (j : Nat) (e : CodeEntry), j < k → l[j]? = some e → PassedOver win remaining e) (k₀ : Nat) :
    scanFrom win remaining k₀ l = scanFrom win remaining (k₀ + k) (l.drop k) := by
  induction k generalizing l k₀ with
  | zero => rfl
  | succ k ih =>
    cases l with
    | nil => cases hk
    | cons e es =>
      obtain ⟨hroom, hmax, hwin⟩ := h 0 e k.succ_pos rfl
      rw [scanFrom, if_neg (Nat.not_lt.2 hroom), if_neg (Nat.not_lt.2 hmax), if_neg hwin,
        ih (Nat.le_of_succ_le_succ hk) (fun j f hj => h (j + 1) f (Nat.succ_lt_succ hj)) (k₀ + 1), Nat.add_right_comm,
        List.drop_succ_cons, Nat.add_assoc]

/-- It reaches the entry after them (R214). -/
theorem scanFrom_reaches {win : Nat → Nat} {remaining k : Nat} {l : List CodeEntry} {e : CodeEntry} (he : l[k]? = some e)
    (h : ∀ (j : Nat) (f : CodeEntry), j < k → l[j]? = some f → PassedOver win remaining f) :
    scanFrom win remaining 0 l = scanFrom win remaining k (e :: l.drop (k + 1)) := by
  obtain ⟨hk, rfl⟩ := List.getElem?_eq_some_iff.1 he
  rw [scanFrom_passed hk.le h 0, List.drop_eq_getElem_cons hk, Nat.zero_add]

section
variable {win : Nat → Nat} {remaining k : Nat} {e : CodeEntry} {es : List CodeEntry}

theorem scanFrom_of_no_room (h : remaining < e.length.toNat) : scanFrom win remaining k (e :: es) = .short k :=
  if_pos h

theorem scanFrom_of_long (hroom : e.length.toNat ≤ remaining) (h : windowMax < e.length.toNat) :
    scanFrom win remaining k (e :: es) = .internal k :=
  (if_neg (Nat.not_lt.2 hroom)).trans (if_pos h)

theorem scanFrom_of_code (hroom : e.length.toNat ≤ remaining) (hmax : e.length.toNat ≤ windowMax)
    (h : win e.length.toNat = e.code.toNat) :
    scanFrom win remaining k (e :: es) = if e.symbol.toNat = eosSymbol then .eos k else .found k :=
  (if_neg (Nat.not_lt.2 hroom)).trans ((if_neg (Nat.not_lt.2 hmax)).trans (if_pos h))

end

/-- In a byte that reads the write of a symbol completes (R218); `decEmitByte_ok` says what it does. -/
theorem decEmitByte_writes {s : State} {e : CodeEntry} {old : Byte}
    (hw : ∀ x ∈ [WName.obPtr, .bitsDone, .bitsTotal], s.work.isWritten x = true)
    (hpos : s.work.outPos.value + 1 < 2 ^ s.sizeW) (hdone : s.work.bitsDone.value + e.length.toNat < 2 ^ s.sizeW)
    (hold : readByte s.mem s.work.obPtr.value s.work.outPos.value = some old) :
    ∃ m, decEmitByte e s = .ok (((s.withMem m).withWork { s.work with
          outPos := .wr (s.work.outPos.value + 1), obLen := .wr (s.work.outPos.value + 1),
          bitsDone := .wr (s.work.bitsDone.value + e.length.toNat) }).withPhase
        (loopPhase (s.work.bitsDone.value + e.length.toNat) s.work.bitsTotal.value)) ∧
      readByte m s.work.obPtr.value s.work.outPos.value = some (BitVec.ofNat 8 e.symbol.toNat) ∧
      OtherBytesKept s.mem m s.work.obPtr.value s.work.outPos.value := by
  obtain ⟨m, hm, hbyte, hothers⟩ := outWrite_of_readByte hold (BitVec.ofNat 8 e.symbol.toNat)
  refine ⟨m, ?_, hbyte, hothers⟩
  unfold decEmitByte
  rw [bind_of_ok (needs_of_written hw)]
  dsimp only
  rw [bind_of_ok hm, bind_of_ok (fit_of_lt hpos), bind_of_ok (fit_of_lt hdone)]
  rfl

theorem dtAt_of_entry {s : State} {k : Nat} {e : CodeEntry} (hv : s.dtValid = true) (he : s.dt[k]? = some e) :
    dtAt s k = .ok e := by
  simp [dtAt, hv, he]

/-- The error end of a denied growth: the full region and the bytes decoded so far (R223). -/
theorem decNoMemory_of_written {s : State} (hw : ∀ x ∈ [WName.obPtr, .outPos, .obCap], s.work.isWritten x = true) :
    decNoMemory s = .ok (endCommand .outOfMemory s.work.obPtr.value s.work.outPos.value s.work.obCap.value s) := by
  unfold decNoMemory
  rw [bind_of_ok (needs_of_written hw)]

/-- Once OB.GROW has made room for byte `idx` OB.ENSURE has nothing to do (R167, R168). -/
theorem obEnsure_of_grown {idx : Nat} {s t : State} (hok : obGrow s = .ok (.done, t))
    (hlt : idx < s.work.obCap.value + s.work.obInc.value) : obEnsure idx t = .ok (.done, t) := by
  obtain ⟨g, hwork⟩ := obGrow_granted_work hok
  exact obEnsure_below (by rw [hwork]; rfl) (by rw [hwork]; exact hlt)

section
variable {s t : State} (hpos : s.work.outPos.written = true)
include hpos

section
variable {k : Nat} {e : CodeEntry} (hv : s.dtValid = true) (he : s.dt[k]? = some e) (hsym : e.symbol.toNat ≤ 255)
include hv he hsym

/-- Where the next byte is inside the region, or OB.GROW makes room for it, `DEC.EMIT` writes the symbol (R218). -/
theorem decEmit_of_ensured (hens : obEnsure s.work.outPos.value s = .ok (.done, t)) : decEmit k s = decEmitByte e t := by
  unfold decEmit
  rw [bind_of_ok (dtAt_of_entry hv he), if_neg (Nat.not_lt.2 hsym),
    bind_of_ok (needs_of_written (by simpa [Work.isWritten] using hpos))]
  exact bind_of_ok hens _

/-- Where the growth is denied it ends the command (R223). -/
theorem decEmit_of_denied (hens : obEnsure s.work.outPos.value s = .ok (.fail, t)) : decEmit k s = decNoMemory t := by
  unfold decEmit
  rw [bind_of_ok (dtAt_of_entry hv he), if_neg (Nat.not_lt.2 hsym),
    bind_of_ok (needs_of_written (by simpa [Work.isWritten] using hpos))]
  exact bind_of_ok hens _

/-- Once OB.GROW has made room for the byte, `DEC.EMIT` is that of the grown state (R218). -/
theorem decEmit_of_grown (hcap : s.work.obCap.written = true) (hge : s.work.obCap.value ≤ s.work.outPos.value)
    (hlt : s.work.outPos.value < s.work.obCap.value + s.work.obInc.value) (hok : obGrow s = .ok (.done, t)) :
    decEmit k s = decEmit k t := by
  obtain ⟨g, hwork⟩ := obGrow_granted_work hok
  have hu := obGrow_untouched hok
  have hpos' : t.work.outPos = s.work.outPos := by rw [hwork]
  rw [decEmit_of_ensured hpos hv he hsym ((obEnsure_past hcap hge).trans hok),
    decEmit_of_ensured (hpos' ▸ hpos) (hu.dtValid.trans hv) (hu.dt ▸ he) hsym (obEnsure_of_grown hok (hpos' ▸ hlt))]

end

/-- Where the terminator's byte is inside the region, or OB.GROW makes room for it, `DEC.TERM` writes it (R219). -/
theorem decTerm_of_ensured (hens : obEnsure s.work.outPos.value s = .ok (.done, t)) : decTerm s = decTermByte t := by
  unfold decTerm
  rw [bind_of_ok (needs_of_written (by simpa [Work.isWritten] using hpos))]
  exact bind_of_ok hens _

/-- Where the growth is denied it ends the command without a terminator (R223). -/
theorem decTerm_of_denied (hens : obEnsure s.work.outPos.value s = .ok (.fail, t)) : decTerm s = decNoMemory t := by
  unfold decTerm
  rw [bind_of_ok (needs_of_written (by simpa [Work.isWritten] using hpos))]
  exact bind_of_ok hens _

/-- Once OB.GROW has made room for the byte, `DEC.TERM` is that of the grown state (R219). -/
theorem decTerm_of_grown (hcap : s.work.obCap.written = true) (hge : s.work.obCap.value ≤ s.work.outPos.value)
    (hlt : s.work.outPos.value < s.work.obCap.value + s.work.obInc.value) (hok : obGrow s = .ok (.done, t)) :
    decTerm s = decTerm t := by
  obtain ⟨g, hwork⟩ := obGrow_granted_work hok
  have hpos' : t.work.outPos = s.work.outPos := by rw [hwork]
  rw [decTerm_of_ensured hpos ((obEnsure_past hcap hge).trans hok),
    decTerm_of_ensured (hpos' ▸ hpos) (obEnsure_of_grown hok (hpos' ▸ hlt))]

end

/-- The growth check of a micro-operation `op` of the decoder at the capacity: granted, `op` is that of the grown state; denied, it
ends the command with the regions as they were (R223). -/
theorem growth_of_written {s : State} {r : Region} (op : State → Except Fault State)
    (hw : ∀ x ∈ [WName.obPtr, .obCap, .outPos, .obInc, .obZero], s.work.isWritten x = true)
    (hfit : s.work.obCap.value + s.work.obInc.value < 2 ^ s.sizeW) (hr : regionGet s.mem s.work.obPtr.value = some r)
    (hlt : r.cap < s.work.obCap.value + s.work.obInc.value)
    (hgrown : ∀ t, obGrow s = .ok (.done, t) → s.work.outPos.value < s.work.obCap.value + s.work.obInc.value → op s = op t)
    (hdenied : ∀ t, obGrow s = .ok (.fail, t) → op s = decNoMemory t) :
    ∃ s1, exec .obGrow s = .next s1 ∧
      (s1.ret = .ob .done → s.work.outPos.value < s.work.obCap.value + s.work.obInc.value →
        ofRun (op s) = ofRun (op { s1 with ret := s.ret })) ∧
      (s1.ret = .ob .fail → ∃ t, ofRun (op s) = .next t ∧ t.mem = s.mem ∧
        Ends s1 t 1 s.work.obPtr.value s.work.outPos.value s.work.obCap.value) := by
  obtain ⟨hptr, hcap, hpos, hinc, hzero⟩ : s.work.obPtr.written = true ∧ s.work.obCap.written = true ∧
      s.work.outPos.written = true ∧ s.work.obInc.written = true ∧ s.work.obZero.written = true := by
    simpa [Work.isWritten] using hw
  have hneeds : needs s [.obPtr, .obCap, .obInc, .obZero] = .ok () :=
    needs_of_written (by simpa [Work.isWritten] using ⟨hptr, hcap, hinc, hzero⟩)
  obtain ⟨o, u, hok⟩ := obGrow_completes hneeds hfit ((growable_iff _ _ _).2 ⟨r, hr, hlt⟩)
  refine ⟨_, exec_obGrow_of_ok hok, fun hdone hroom => ?granted, fun hfail => ?denied⟩
  case granted =>
    cases hdone
    have hstate : { u.withRet (.ob .done) with ret := s.ret } = u := by rw [← obGrow_ret hok]; rfl
    rw [hstate, hgrown u hok hroom]
  case denied =>
    cases hfail
    obtain ⟨hmem, hwork⟩ := obGrow_denied hok
    have hend := decNoMemory_of_written (s := u) (by simpa [Work.isWritten, hwork] using ⟨hptr, hpos, hcap⟩)
    rw [hdenied u hok, hend, hwork]
    exact ⟨_, rfl, hmem, endCommand_ends .outOfMemory ..⟩

/-- In a byte that reads the terminator is written and the command completes (R219). -/
theorem decTermByte_writes {s : State} {old : Byte} (hw : ∀ x ∈ [WName.obPtr, .obCap], s.work.isWritten x = true)
    (hold : readByte s.mem s.work.obPtr.value s.work.outPos.value = some old) :
    ∃ m, decTermByte s = .ok (endCommand .ok s.work.obPtr.value s.work.outPos.value s.work.obCap.value (s.withMem m)) ∧
      readByte m s.work.obPtr.value s.work.outPos.value = some 0 ∧
      OtherBytesKept s.mem m s.work.obPtr.value s.work.outPos.value := by
  obtain ⟨m, hm, hbyte, hothers⟩ := outWrite_of_readByte hold 0
  refine ⟨m, ?_, hbyte, hothers⟩
  unfold decTermByte
  rw [bind_of_ok (needs_of_written hw), bind_of_ok hm]

/-! ### The code rows (R210, R218, R220) -/

/-- The pass of a symbol takes the entry of that symbol, wherever it stands in the built table (R210). -/
theorem codePass_of_entry {s : State} (hs : Sound s) (hv : s.dtValid = true) {k : Nat} {e : CodeEntry}
    (hk : s.dt[k]? = some e) : codePass e.symbol.toNat s =
      if e.symbol.toNat = eosSymbol then
        .ok ((s.withWork { s.work with scanK := .wr (BitVec.ofNat 9 k) }).withPhase .term)
      else decEmit k (s.withWork { s.work with scanK := .wr (BitVec.ofNat 9 k) }) := by
  simp [codePass, hv, (hs.scannable hv).symbolIndex_eq hk]

/-- Each symbol from 0 to 256 has its entry in `ROM`, and the built table a copy of it (R100, R146). -/
theorem exists_dt_entry {s : State} (hs : Sound s) (hv : s.dtValid = true) {n : Nat} (hn : n ≤ 256) :
    ∃ (k : BitVec 9) (e : CodeEntry), s.rom[n]? = some e ∧ e.symbol.toNat = n ∧ s.dt[k.toNat]? = some e := by
  have hlt : n < s.rom.length := by rw [hs.rom.wf1.1]; exact Nat.lt_succ_of_le hn
  have hget := List.getElem?_eq_getElem hlt
  obtain ⟨k, hk, hdt⟩ := exists_index_of_mem hs.rom.wf1 (List.mem_of_getElem? hget)
  rw [← hs.dt hv] at hdt
  have hk9 : (BitVec.ofNat 9 k).toNat = k := by rw [BitVec.toNat_ofNat]; omega
  exact ⟨BitVec.ofNat 9 k, _, hget, hs.rom.wf1.2 n _ hget, by rw [hk9]; exact hdt⟩

/-! ### The DECODE of a region reported (R225) -/

/-- A sound state stays sound with its operands set to the region it reports. -/
theorem Sound.decodeResult {t : State} (h : Sound t) :
    Sound { t with inPtr := t.resPtr, inLen := t.resLen, outPtr := nullHandle } where
  rom := h.rom
  dt := h.dt
  mem := h.mem
  fits := by
    obtain ⟨-, -, -, hcap, hptr, hlen, hrcap⟩ := (hostWords_lt_iff t _).1 h.fits.host
    exact ⟨h.fits.width, (hostWords_lt_iff _ _).2 ⟨hptr, hlen, Nat.two_pow_pos _, hcap, hptr, hlen, hrcap⟩, h.fits.work,
      h.fits.mem⟩

/-- A DECODE into a region still to obtain needs its input alone (R96, R302). -/
theorem admission_decode_obtaining {s : State} (hb : s.busy = false) (hr : s.inLen < 2 ^ (s.sizeW - 6))
    (hnull : s.outPtr = nullHandle) (hin : s.inLen = 0 ∨ InputLive s) : admission .decode s = none := by
  simp [admission, inRange, inputDuty, outputDuty, apartDuty, hb, hr, hnull, (inputReadable_iff s).2 hin]

end Sys2Proof.Machine

open Sys2Proof Sys2Proof.Machine

/-- Settles O56: the invariant `DecodeGrantedStage` leaves the end `OK` alone (`decode_granted_ends`), which reports the whole
parse. -/
theorem decodeComputesTheParse : Obligations.DecodeComputesTheParse := by
  intro s hs ha hg
  obtain ⟨t, ht, hkind, hres⟩ := decode_granted_ends hs ha hg
  obtain ⟨hreports, hlen, hterm⟩ := hres.whole_parse hkind
  refine ⟨t, ht, hkind, hlen, fun i v hv => ?_, hterm⟩
  have hi : i < t.resLen := by rw [hlen]; exact (List.getElem?_eq_some_iff.1 hv).1
  obtain ⟨v', hv', hle, hread⟩ := hreports.symbols i hi
  cases hv.symm.trans hv'
  exact ⟨hread, hle⟩

/-- Settles O57: the DECODE of the region is admitted and sound, O56 gives its parse, and the parse of an encoding is the bytes
encoded (`EncodingOf.parse_eq`). -/
theorem decodeOfEncodeIsTheInput : Obligations.DecodeOfEncodeIsTheInput := by
  intro s t hs hexec hptr s2 hrange hg
  obtain ⟨r, hr, hcap⟩ := inputLive_of_encode hexec hptr
  obtain ⟨hbusy, hu, henc, hregion⟩ := encoded_of_encode hs hexec hptr
  have hsound : Sound t :=
    hs.of_move (runCommand_move (c := .encode) hexec) (runCommand_engineMove (c := .encode) hexec).toTableMove
  obtain ⟨u, hdec, hkind, hlen, hbytes, hterm⟩ := decodeComputesTheParse s2 hsound.decodeResult
    (admission_decode_obtaining hbusy (hu.sizeW ▸ hrange) rfl (.inr hregion)) hg
  have hparse : parse s2.rom (inputByte s2) s2.inLen = (List.range s.inLen).map fun j => (inputByte s j).toNat := by
    show parse t.rom (regionByte t.mem t.resPtr) t.resLen = _
    rw [hu.rom]
    exact henc.encodingOf.parse_eq hs.rom
  rw [hparse] at hlen hbytes
  refine ⟨u, hdec, hkind, by simpa using hlen, fun i hi => ?_, hterm⟩
  rw [(hbytes i (inputByte s i).toNat (by simp [hi])).1, readByte_eq_regionByte hr (by omega)]
  exact congrArg some (BitVec.ofNat_toNat ..)

/-- Settles O51: the window is the stream bits (`window_eq_streamBits`), of the input as far as it goes (`window_inZero`). -/
theorem windowIsTheStreamBits : Obligations.WindowIsTheStreamBits := by
  refine fun s len hw => ⟨fun h1 h32 hin => ⟨?zeros, fun hroom => ?input⟩, fun h => if_pos h⟩
  case zeros => rw [exec_decWindow hw h1 h32 hin, window_eq_streamBits _ _ h32, inZero_eq hin]; rfl
  case input =>
    rw [exec_decWindow hw h1 h32 hin, window_inZero (hin.resolve_left (by omega)) h32 (by omega)]; rfl

/-- Settles O52: a scan goes past the entries passed over, which it compares with the stream bits, to the next one
(`scanFrom_reaches`) or to the end (`scanFrom_passed`). -/
theorem decScanFindsTheFirstMatch : Obligations.DecScanFindsTheFirstMatch := by
  intro s hdone htotal hv hlen hin p remaining next passed stopAt
  have hready := scanReady_of_input hdone htotal hv hin
  have hscan : scanResult s = scanFrom (window (inZero s) p) remaining 0 s.dt := by
    unfold scanResult
    rw [← hlen, List.take_length]
  have hwin : ∀ len, len ≤ 32 → window (inZero s) p len = next len := fun len h32 => by
    rw [window_eq_streamBits _ _ h32, inZero_eq hin]
  have hpassed : ∀ k, passed k → ∀ (j : Nat) (e : CodeEntry), j < k → s.dt[j]? = some e →
      PassedOver (window (inZero s) p) remaining e := fun k h j e hj he => by
    obtain ⟨hroom, h32, hne⟩ := h j e hj he
    exact ⟨hroom, h32, by rw [hwin _ h32]; exact hne⟩
  refine ⟨fun k e he hk => ?_, fun hall => ?_⟩
  · have hreach := hscan.trans (scanFrom_reaches he (hpassed k hk))
    refine ⟨fun hshort => ?short, fun hroom hlong hw => ?internal, fun hroom h32 hcode => ?code⟩
    case short => exact exec_decScan hready (hreach.trans (scanFrom_of_no_room hshort)) nofun
    case internal =>
      have hr := hreach.trans (scanFrom_of_long hroom hlong)
      exact ⟨_, exec_decScan_internal hready hr hw, endCommand_ends .internal ..⟩
    case code =>
      have hr := hreach.trans (scanFrom_of_code hroom h32 ((hwin _ h32).trans hcode))
      exact ⟨fun hsym => exec_decScan hready (hr.trans (if_pos hsym)) nofun,
        fun hsym => exec_decScan hready (hr.trans (if_neg hsym)) nofun⟩
  · have hr := hscan.trans (scanFrom_passed (k := nsym) hlen.ge (hpassed nsym hall) 0)
    rw [List.drop_of_length_le hlen.le] at hr
    exact exec_decScan hready hr nofun

/-- Settles O53: the byte reads, so that the write completes (`decEmitByte_writes`); at the capacity the growth decides
(`growth_of_written`). -/
theorem decEmitWritesTheSymbol : Obligations.DecEmitWritesTheSymbol := by
  intro s k e hv he hsym hw pos done
  obtain ⟨hptr, hcap, hpos, hdone, htotal⟩ : s.work.obPtr.written = true ∧ s.work.obCap.written = true ∧
      s.work.outPos.written = true ∧ s.work.bitsDone.written = true ∧ s.work.bitsTotal.written = true := by
    simpa [Work.isWritten] using hw
  refine ⟨fun old hlt hold hposfit hdonefit => ?inPlace, fun r hinc hzero hge hfit hr hsmall => ?grows⟩
  case inPlace =>
    obtain ⟨m, hm, hbyte, hothers⟩ := decEmitByte_writes (e := e)
      (by simpa [Work.isWritten] using ⟨hptr, hdone, htotal⟩) hposfit hdonefit hold
    exact ⟨m, congrArg ofRun ((decEmit_of_ensured hpos hv he hsym (obEnsure_below hcap hlt)).trans hm), hbyte, hothers⟩
  case grows =>
    exact growth_of_written (decEmit k.toNat) (by simpa [Work.isWritten] using ⟨hptr, hcap, hpos, hinc, hzero⟩) hfit hr hsmall
      (fun t hok hroom => decEmit_of_grown hpos hv he hsym hcap hge hroom hok)
      (fun t hok => decEmit_of_denied hpos hv he hsym ((obEnsure_past hcap hge).trans hok))

/-- Settles O54: the byte reads, so that the terminator is written (`decTermByte_writes`); at the capacity the growth decides
(`growth_of_written`). -/
theorem decTermWritesTheTerminator : Obligations.DecTermWritesTheTerminator := by
  intro s hw pos
  obtain ⟨hptr, hcap, hpos⟩ : s.work.obPtr.written = true ∧ s.work.obCap.written = true ∧ s.work.outPos.written = true := by
    simpa [Work.isWritten] using hw
  refine ⟨fun old hlt hold => ?inPlace, fun r hinc hzero hge hfit hr hsmall => ?grows⟩
  case inPlace =>
    obtain ⟨m, hm, hbyte, hothers⟩ := decTermByte_writes (by simpa [Work.isWritten] using ⟨hptr, hcap⟩) hold
    exact ⟨_, congrArg ofRun ((decTerm_of_ensured hpos (obEnsure_below hcap hlt)).trans hm), endCommand_ends .ok .., hbyte,
      hothers⟩
  case grows =>
    exact growth_of_written decTerm (by simpa [Work.isWritten] using ⟨hptr, hcap, hpos, hinc, hzero⟩) hfit hr hsmall
      (fun t hok hroom => decTerm_of_grown hpos hcap hge hroom hok)
      (fun t hok => decTerm_of_denied hpos ((obEnsure_past hcap hge).trans hok))

/-- Settles O58: a code row is the pass of its symbol (`exec_of_symbol`), which is DEC.EMIT of the symbol's entry
(`codePass_of_entry`), so that O53 says what it writes. -/
theorem codesEmitTheirSymbols : Obligations.CodesEmitTheirSymbols := by
  intro i n s hi hs hv
  obtain ⟨k, e, hrom, rfl, hk⟩ := exists_dt_entry hs hv (symbol_le hi)
  have hk9 : BitVec.ofNat 9 k.toNat = k := BitVec.ofNat_toNat ..
  have hpass := (exec_of_symbol hi s).trans (congrArg ofRun (codePass_of_entry hs hv hk))
  rw [hk9] at hpass
  have hemit : e.symbol.toNat ≤ 255 →
      exec i s = exec (.decEmit k) { s with work := { s.work with scanK := .wr k } } := fun hle => by
    rw [hpass, if_neg (by unfold eosSymbol; omega)]; rfl
  refine ⟨k, e, hrom, rfl, hk, hemit, fun hle hw hlt hposfit hdonefit old hold => ?_, fun heos => ?_⟩
  · rw [hemit hle]
    exact (decEmitWritesTheSymbol { s with work := { s.work with scanK := .wr k } } k e hv hk hle
      (by simpa [Work.isWritten] using hw)).1 old hlt hold hposfit hdonefit
  · exact hpass.trans (congrArg ofRun (if_pos heos))

/-- Settles O49: DT.BUILD is the cases of `decInit_cases`, and a failed one leaves the table absent (`dtBuild_failed`). -/
theorem decInitBuildsTheTableOrFails : Obligations.DecInitBuildsTheTableOrFails := by
  intro s
  have hexec : exec .decInit s = .next (decInit s) := rfl
  refine ⟨fun hv => ?present, fun hv => ⟨_, decInit s, exec_dtBuild s, hexec, fun hdone => ?built, fun hfail => ?failed⟩⟩
  case present => rw [hexec, decInit, dtBuild_of_present hv]; rfl
  case built =>
    obtain ⟨-, ht⟩ | ⟨hf, -⟩ := decInit_cases s
    · rw [ht, ← dtBuild_ret s]; rfl
    · cases hf.symm.trans (Ret.ob.inj hdone)
  case failed =>
    obtain ⟨hd, -⟩ | ⟨hf, ht⟩ := decInit_cases s
    · cases hd.symm.trans (Ret.ob.inj hfail)
    · rw [ht]
      exact ⟨dtBuild_mem s, (dtBuild_failed hf).2, endCommand_ends .initializationFailed ..⟩

/-- Settles O50: `decStart_ok` has the ends of DEC.START, and `decCounters_ok` what the counters are set to. -/
theorem decStartSetsTheBufferAndTheCounters : Obligations.DecStartSetsTheBufferAndTheCounters := by
  intro s hlen hinc
  obtain ⟨t, ht⟩ := decStart_completes hlen hinc
  have hexec : exec .decStart s = .next t := congrArg ofRun ht
  refine ⟨fun hne => ?adopts, fun hnull => ⟨_, t, exec_obAlloc false (by omega) hinc, hexec, fun hdone => ?obtains,
    fun hfail => ?denied⟩⟩
  case adopts =>
    obtain ⟨hnull, -⟩ | ⟨hnull, -⟩ | ⟨-, ht⟩ := decStart_ok ht
    · exact absurd hnull hne
    · exact absurd hnull hne
    · rw [hexec, decCounters_ok ht, ← loopPhase_start]; rfl
  case obtains =>
    obtain ⟨-, hf, -⟩ | ⟨-, -, ht⟩ | ⟨hne, -⟩ := decStart_ok ht
    · cases hf.symm.trans (Ret.ob.inj hdone)
    · rw [decCounters_ok ht, ← loopPhase_start, ← obAlloc_ret (2 * s.inLen) decInc false s,
        (obAlloc_untouched (2 * s.inLen) decInc false s).inLen]
      rfl
    · exact absurd hnull hne
  case denied =>
    obtain ⟨-, -, rfl⟩ | ⟨-, hd, -⟩ | ⟨hne, -⟩ := decStart_ok ht
    · exact endCommand_ends .outOfMemory ..
    · cases hd.symm.trans (Ret.ob.inj hfail)
    · exact absurd hnull hne
end

section
/-! PROOFS, family 60_exceptions: the row of a result kind ends the command with that kind. -/

namespace Sys2Proof.Machine

open Sys2Proof

/-- With result words that fit, the row of the kind (R94) ends the command (R256, R257). -/
theorem exec_decodeKind (k : Kind) {ptr len cap : Nat} {s : State} (hptr : ptr < 2 ^ s.sizeW) (hlen : len < 2 ^ s.sizeW)
    (hcap : cap < 2 ^ s.sizeW) :
    exec (decodeKind (kindCode k) ptr len cap) s = .next (endCommand k ptr len cap s) := by
  have hfit : wordsFit s [ptr, len, cap] = true := (wordsFit_iff s _).2 (by simp [hptr, hlen, hcap])
  cases k with
  | ok => exact if_pos hfit
  | outOfMemory => exact if_pos hfit
  | initializationFailed => exact if_pos hfit
  | internal => exact if_pos hfit

end Sys2Proof.Machine

open Sys2Proof Sys2Proof.Machine

/-- Settles O38: the row of each kind is the end of the command (`exec_decodeKind`), and `endCommand_ends` has what that leaves. -/
theorem completeAndRaiseEndTheCommand : Obligations.CompleteAndRaiseEndTheCommand := by
  intro ptr len cap s hptr hlen hcap
  have hends (k : Kind) : ∃ t, exec (decodeKind (kindCode k) ptr len cap) s = .next t ∧ Ends s t (kindCode k) ptr len cap :=
    ⟨_, exec_decodeKind k hptr hlen hcap, endCommand_ends k ..⟩
  exact ⟨hends .ok, hends .outOfMemory, hends .initializationFailed, hends .internal⟩
end
